-- ==== Sys2Proof/Word.lean ====
section
/-! DEFINITION. The words of the block: bytes, 32-bit register words, byte strings (00_scope.md R10 to R12). -/

namespace Sys2Proof

/-- A byte of a datagram or of the frame memory. -/
abbrev Byte := BitVec 8

/-- A register word (10_state.md R23). -/
abbrev Word := BitVec 32

/-- A byte string, first byte first (00_scope.md R10). -/
abbrev Bytes := List Byte

/-- `zeros(n)`: `n` bytes of 0x00 (00_scope.md R12). -/
def zeros (n : Nat) : Bytes := List.replicate n 0

end Sys2Proof
end

