-- ==== Sys2Proof/Syntax.lean ====
section
/-! DEFINITION. The instructions: one constructor per row of spec/opcode_table.json. -/

namespace Sys2Proof

/-- The two bus transactions (30_encoding.md R90) and the four commands (R92). -/
inductive Instr where
  /-- `OPEN` (44_session.md R250). -/
  | openSession
  /-- `CLOSE` (44_session.md R251). -/
  | closeSession
  /-- `SEND_FRAME` (43_frame_send.md R220). -/
  | sendFrame
  /-- `ENCODE_SEND base` (43_frame_send.md R221); `base` is a universe index, a natural number (R94; log 15). -/
  | encodeSend (base : Nat)
  /-- `REG_READ addr` (45_register_access.md R265); the data bits of a read are ignored. -/
  | regRead (addr : BitVec 8)
  /-- `REG_WRITE addr, data` (45_register_access.md R266). -/
  | regWrite (addr : BitVec 8) (data : Word)
deriving DecidableEq, Repr

end Sys2Proof
end

