-- ==== Sys2Proof/WellFormed.lean ====
section
/-! DEFINITION. Which instructions have an encoding. -/

namespace Sys2Proof

/-- An instruction is well-formed when its operands fit their fields. The one field a type does not bound is
the base universe of `ENCODE_SEND`, 0 to 65535 (30_encoding.md R94, R142: an assembler refuses any other). -/
abbrev Instr.WellFormed : Instr → Prop
  | .openSession => True
  | .closeSession => True
  | .sendFrame => True
  | .encodeSend base => base ≤ 65535
  | .regRead _ => True
  | .regWrite _ _ => True

/-- `Instr.WellFormed` as a check that evaluates. -/
def Instr.wellFormed : Instr → Bool
  | .openSession => true
  | .closeSession => true
  | .sendFrame => true
  | .encodeSend base => decide (base ≤ 65535)
  | .regRead _ => true
  | .regWrite _ _ => true

end Sys2Proof
end

