-- ==== Sys2Proof/Decode.lean ====
section
/-! DEFINITION. The decoder of command words and bus words, total on any bytes, and the encoder (30_encoding.md
R90 to R95). -/

namespace Sys2Proof

/-- Why bytes are no instruction. -/
inductive DecodeError where
  /-- Neither the four bytes of a command word nor the six of a bus word (R95; log 7). -/
  | badLength (length : Nat)
  /-- Six bytes with a bit set above bit 40 (R90; log 7). -/
  | notATransaction
  /-- `OP` is 0x00 or 0x05 to 0xFF (R93). -/
  | illegalOpcode (op : BitVec 8)
  /-- `RSV` is not 0 (R93). -/
  | reservedNotZero (rsv : BitVec 8)
  /-- `ARG` is not 0 and `OP` is not 0x04 (R93). -/
  | argumentNotZero (arg : BitVec 16)
deriving DecidableEq, Repr

/-- A byte string's number, its first byte least significant (log 7). -/
def ofBytes : Bytes → Nat
  | [] => 0
  | b :: bs => b.toNat + 256 * ofBytes bs

/-- The `n` low bytes of a number, the least significant first (log 7). -/
def toBytes : Nat → Nat → Bytes
  | 0, _ => []
  | n + 1, w => BitVec.ofNat 8 w :: toBytes n (w / 256)

/-- The command a 32-bit command word stands for (R91 to R93). -/
def decodeCmd (w : Word) : Except DecodeError Instr :=
  let op := w.extractLsb' 0 8
  let rsv := w.extractLsb' 8 8
  let arg := w.extractLsb' 16 16
  if op = 0x00 ∨ 0x05 ≤ op.toNat then .error (.illegalOpcode op)
  else if rsv ≠ 0 then .error (.reservedNotZero rsv)
  else if op = 0x04 then .ok (.encodeSend arg.toNat)
  else if arg ≠ 0 then .error (.argumentNotZero arg)
  else if op = 0x01 then .ok .openSession
  else if op = 0x02 then .ok .closeSession
  else .ok .sendFrame

/-- The transaction a 41-bit bus word stands for (R90): every triple is one (R93). -/
def decodeBus (w : BitVec 41) : Instr :=
  let addr := w.extractLsb' 32 8
  if w.getLsbD 40 then .regWrite addr (w.extractLsb' 0 32) else .regRead addr

/-- The instruction a byte string stands for: four bytes are a command word, six a bus word (log 7). -/
def decode (bytes : Bytes) : Except DecodeError Instr :=
  if bytes.length = 4 then decodeCmd (BitVec.ofNat 32 (ofBytes bytes))
  else if bytes.length = 6 then
    if ofBytes bytes < 2 ^ 41 then .ok (decodeBus (BitVec.ofNat 41 (ofBytes bytes))) else .error .notATransaction
  else .error (.badLength bytes.length)

/-- The bytes of an instruction's word: four for a command, six for a bus transaction (log 7). -/
def Instr.wordBytes : Instr → Nat
  | .openSession => 4
  | .closeSession => 4
  | .sendFrame => 4
  | .encodeSend _ => 4
  | .regRead _ => 6
  | .regWrite _ _ => 6

/-- An instruction's word as one number (R90, R92, R141). -/
def Instr.word : Instr → Nat
  | .openSession => 0x00000001
  | .closeSession => 0x00000002
  | .sendFrame => 0x00000003
  | .encodeSend base => base * 2 ^ 16 + 0x0004
  | .regRead addr => addr.toNat * 2 ^ 32
  | .regWrite addr data => 2 ^ 40 + addr.toNat * 2 ^ 32 + data.toNat

/-- The encoder: an instruction's word as bytes. -/
def encode (i : Instr) : Bytes := toBytes i.wordBytes i.word

/-- The bus word of the transaction that writes the command word `w` to `CMD`, `WR CMD, w` (R90, R142). -/
def writeCmdWord (w : Word) : BitVec 41 := BitVec.ofNat 41 (Instr.regWrite 0x20 w).word

/-- The instruction the decoder reads from a table word of `nbits` bits: up to 32 bits a command word, above
that a bus word. -/
def decodeTableWord (nbits w : Nat) : Option Instr :=
  match decode (toBytes (if nbits ≤ 32 then 4 else 6) w) with
  | .ok i => some i
  | .error _ => none

end Sys2Proof
end

