-- ==== Sys2Proof/Config.lean ====
section
/-! DEFINITION. What an instance fixes (00_scope.md R6) and what the spec leaves free: the parameters, their
defaults, and the constants without a body that stand for the values no rule gives. -/

namespace Sys2Proof

/-- An answer of the transport to `TransportOpen` or `TransportSend` (00_scope.md R8). -/
inductive Answer where
  | ok
  | fail
deriving DecidableEq, Repr, Inhabited

/-- The parameters of an instance (00_scope.md R6); no step of the machine changes them. -/
structure Params where
  /-- `ARTNET_ID` less its last byte, which is always 0x00 (30_encoding.md R101). -/
  artnetName : Vector Byte 7
  /-- `CID` (30_encoding.md R117). -/
  cid : Vector Byte 16
  /-- `SOURCE_NAME`, at most 64 bytes (30_encoding.md R120; see `paramsWf` in Safety). -/
  sourceName : Bytes
  /-- `ROOT_PREFIX` (30_encoding.md R112 to R114). -/
  rootPrefix : Vector Byte 16
  /-- `FLAG_NIBBLE` (30_encoding.md R111). -/
  flagNibble : BitVec 4
  /-- `SEQ_ADVANCE_ON_FAIL` (42_e131_encoder.md R192, R197). -/
  seqAdvanceOnFail : Bool
deriving DecidableEq, Repr

/-- `CID` of the instance that `State.reset` describes: OPEN in the spec, so it has no body (log 2). -/
opaque Config.cid : Vector Byte 16

/-- What `SOURCE_NAME` of that instance is drawn from: OPEN in the spec, so it has no body (log 2). -/
opaque Config.sourceNameDraw : Bytes

/-- `SOURCE_NAME` of that instance: any byte string of length 0 to 64 (log 2). -/
def Config.sourceName : Bytes := Config.sourceNameDraw.take 64

/-- The transport's answer to its n-th call where no answer is scripted: a free draw, one for every call,
under no law (00_scope.md R8; log 5). -/
opaque Config.transportAnswer : Nat → Answer

/-- The parameters at reset: the spec's defaults, PRESUMED there from general knowledge (log 3), and the two
OPEN ones (log 2). -/
def Config.params : Params where
  artnetName := #v[0x41, 0x72, 0x74, 0x2D, 0x4E, 0x65, 0x74]
  cid := Config.cid
  sourceName := Config.sourceName
  rootPrefix := #v[0x00, 0x10, 0x00, 0x00, 0x41, 0x53, 0x43, 0x2D, 0x45, 0x31, 0x2E, 0x31, 0x37, 0x00, 0x00, 0x00]
  flagNibble := 0x7
  seqAdvanceOnFail := true

end Sys2Proof
end

