-- ==== Sys2Proof/Machine/State.lean ====
section
/-! DEFINITION. The state of the block and of what surrounds it, as plain data, and the state after reset. -/

namespace Sys2Proof.Machine

/-- Which encoder is active: the values 0 and 1 of `CTRL.PROTO` (10_state.md R24). -/
inductive Protocol where
  | artnet
  | e131
deriving DecidableEq, Repr

/-- The result codes of `STATUS.RESULT` (10_state.md R33); codes 6 to 15 are never written. -/
inductive ResultCode where
  | ok
  | usage
  | validation
  | transport
  | range
  | illegal
deriving DecidableEq, Repr

/-- One packet as it is handed to the transport (43_frame_send.md R227). -/
structure Datagram where
  bytes : Bytes
  dest : Word
  port : Nat
deriving DecidableEq, Repr

/-- What is observed of a run (00_scope.md R9): the transport calls and the value of every bus read. -/
inductive Event where
  /-- `TransportOpen()`. -/
  | transportOpen
  /-- `TransportSend(bytes, dest, port)`. -/
  | transportSend (d : Datagram)
  /-- `TransportClose()`. -/
  | transportClose
  /-- A register read at `addr` that returned `value`. -/
  | busRead (addr : BitVec 8) (value : Word)
deriving DecidableEq, Repr

/-- What the host can do (70_reset_and_hazards.md R342; log 6). -/
inductive HostMove where
  /-- A bus transaction, as its 41-bit word (30_encoding.md R90). -/
  | bus (w : BitVec 41)
  /-- Placing one byte in the frame memory between commands (20_memory.md R60; log 22). -/
  | place (addr : Word) (value : Byte)
  /-- Asserting `RESET` between transactions (70_reset_and_hazards.md R330). -/
  | reset
  /-- A bus transaction during whose command `RESET` is asserted, once `after` of the command's datagrams have
  been handed over (70_reset_and_hazards.md R333; log 9). -/
  | busReset (w : BitVec 41) (after : Nat)
deriving DecidableEq, Repr

/-- A frame memory: the bytes the host has defined, by rising address; any other byte has no value
(20_memory.md R61; log 12). -/
abbrev Memory := List Host.Cell

/-- A packet buffer pool: the buffers by rising universe (10_state.md R35; log 13). -/
abbrev Pool := List (Nat × Bytes)

/-- The machine's state. -/
structure State where
  /-- The instance's parameters (00_scope.md R6; log 1). -/
  params : Params
  /-- `CTRL.PROTO` (10_state.md R24). -/
  proto : Protocol
  /-- `SESSION`, read as `STATUS.SESSION` (10_state.md R34). -/
  session : Bool
  /-- `STATUS.RESULT` (10_state.md R25, R33). -/
  result : ResultCode
  /-- `ARTNET_START.BASE` (10_state.md R26). -/
  artnetStart : BitVec 16
  /-- `E131_START.BASE` (10_state.md R27). -/
  e131Start : BitVec 16
  /-- `DEST.ADDR` (10_state.md R28). -/
  dest : Word
  /-- `FRAME_LEN.LEN` (10_state.md R29). -/
  frameLen : Word
  /-- `SEQ.SEQ` (10_state.md R30). -/
  seq : Byte
  /-- `PKT_COUNT.COUNT` (10_state.md R31). -/
  pktCount : Word
  /-- `POOL_A` (10_state.md R35). -/
  poolA : Pool
  /-- `POOL_E` (10_state.md R35). -/
  poolE : Pool
  /-- The universe loop index of a running send (10_state.md R21; log 19). -/
  loopIndex : Option Nat
  /-- The fault mark `FAULT` (10_state.md R39; log 10). -/
  fault : Bool
  /-- The host's frame memory (20_memory.md R60). -/
  frame : Memory
  /-- The host's moves that are still to come, the next one first (log 6). -/
  pending : List HostMove
  /-- The transport's next answers, the next one first, as far as they are scripted (log 5). -/
  answers : List Answer
  /-- How many answers the transport has given: the argument of the next free draw (log 5). -/
  draws : Nat
  /-- The observation so far, oldest first (00_scope.md R9; log 16). -/
  obs : List Event
deriving DecidableEq, Repr

/-- Why a run has no end state (60_exceptions.md R302). -/
inductive Fault where
  /-- `BusFault(addr)`: raised by `REG_READ` and `REG_WRITE` at a misaligned or unmapped address
  (45_register_access.md R269). Safe: the spec gives the access no meaning. -/
  | busFault (addr : BitVec 8)
  /-- `FrameFault(a)`: raised by a send that reads a frame byte the host has not defined (20_memory.md R61).
  `obs` is the observation up to there: datagrams already handed over stay sent (R302; log 11).
  Safe: the spec gives the read no meaning. -/
  | frameFault (a : Nat) (obs : List Event)
  /-- Raised by a step of a state whose fault mark is set: no later step occurs (10_state.md R39; log 10). Safe. -/
  | halted
deriving DecidableEq, Repr

/-- Why the model gives an instruction no meaning. -/
inductive Refusal where
  /-- Raised by an arm of `exec` for an instruction without a meaning; no arm does. Safe. -/
  | notModelled (mnemonic : String)
deriving DecidableEq, Repr

/-- What a step answers. -/
abbrev Result := Host.Outcome State Fault Refusal

/-- The state after reset (70_reset_and_hazards.md R331), with no move pending, nothing observed and no frame byte
defined. -/
def State.reset : State where
  params := Config.params
  proto := .artnet
  session := false
  result := .ok
  artnetStart := 0
  e131Start := 1
  dest := 0
  frameLen := 0
  seq := 1
  pktCount := 0
  poolA := []
  poolE := []
  loopIndex := none
  fault := false
  frame := []
  pending := []
  answers := []
  draws := 0
  obs := []

end Sys2Proof.Machine
end

