-- ==== Sys2Proof/Machine/Ops.lean ====
section
/-! DEFINITION. The named operations on the state: writing a field, keyed cells (frame memory and pools), ending a
command, calling the transport, and reset. -/

namespace Sys2Proof.Machine

/-- Write `CTRL.PROTO`. -/
def State.setProto (s : State) (v : Protocol) : State := { s with proto := v }

/-- Write `SESSION`. -/
def State.setSession (s : State) (v : Bool) : State := { s with session := v }

/-- Write `STATUS.RESULT`. -/
def State.setResult (s : State) (v : ResultCode) : State := { s with result := v }

/-- Write `ARTNET_START.BASE`. -/
def State.setArtnetStart (s : State) (v : BitVec 16) : State := { s with artnetStart := v }

/-- Write `E131_START.BASE`. -/
def State.setE131Start (s : State) (v : BitVec 16) : State := { s with e131Start := v }

/-- Write `DEST.ADDR`. -/
def State.setDest (s : State) (v : Word) : State := { s with dest := v }

/-- Write `FRAME_LEN.LEN`. -/
def State.setFrameLen (s : State) (v : Word) : State := { s with frameLen := v }

/-- Write `SEQ.SEQ`. -/
def State.setSeq (s : State) (v : Byte) : State := { s with seq := v }

/-- Write `PKT_COUNT.COUNT`. -/
def State.setPktCount (s : State) (v : Word) : State := { s with pktCount := v }

/-- Write `POOL_A`. -/
def State.setPoolA (s : State) (v : Pool) : State := { s with poolA := v }

/-- Write `POOL_E`. -/
def State.setPoolE (s : State) (v : Pool) : State := { s with poolE := v }

/-- Write the universe loop index. -/
def State.setLoopIndex (s : State) (v : Option Nat) : State := { s with loopIndex := v }

/-- Write the frame memory. -/
def State.setFrame (s : State) (v : Memory) : State := { s with frame := v }

/-- Write the host's moves to come. -/
def State.setPending (s : State) (v : List HostMove) : State := { s with pending := v }

/-- The value at key `a` of a list of cells, if one is listed. -/
def readCell {α : Type} : List (Nat × α) → Nat → Option α
  | [], _ => none
  | (k, v) :: rest, a => if a = k then some v else readCell rest a

/-- Write the value at key `a`, keeping the cells in rising order. -/
def writeCell {α : Type} : List (Nat × α) → Nat → α → List (Nat × α)
  | [], a, v => [(a, v)]
  | (k, w) :: rest, a, v =>
    if a < k then (a, v) :: (k, w) :: rest
    else if a = k then (a, v) :: rest
    else (k, w) :: writeCell rest a v

/-- The canonical form of a list of cells: keys strictly rising, so that equal maps are equal lists. -/
abbrev CellsSorted {α : Type} (m : List (Nat × α)) : Prop := (m.map Prod.fst).Pairwise (· < ·)

/-- The frame memory is canonical and lies in its 32-bit space (20_memory.md R60). -/
abbrev Memory.wf (m : Memory) : Prop := CellsSorted m ∧ ∀ c ∈ m, c.1 < 2 ^ 32

/-- `MemRead(FRAME, a, 1)` (20_memory.md R61): no value where the host has defined none. -/
def Memory.read (m : Memory) (a : Nat) : Option Byte := readCell m a

/-- The host defines the byte at `a` (20_memory.md R60). -/
def Memory.write (m : Memory) (a : Word) (v : Byte) : Memory := writeCell m a.toNat v

/-- `length` frame bytes from `start`, in ascending order; where one is undefined, its address
(20_memory.md R61; log 11). -/
def Memory.readRun (m : Memory) : Nat → Nat → Except Nat Bytes
  | _, 0 => .ok []
  | start, length + 1 =>
    match m.read start with
    | none => .error start
    | some b =>
      match m.readRun (start + 1) length with
      | .error a => .error a
      | .ok bs => .ok (b :: bs)

/-- `PoolGet(P, u)`; no buffer is `not PoolHas(P, u)` (00_scope.md R13). -/
def Pool.get (p : Pool) (u : Nat) : Option Bytes := readCell p u

/-- `PoolPut(P, u, buf)` (00_scope.md R13). -/
def Pool.put (p : Pool) (u : Nat) (buf : Bytes) : Pool := writeCell p u buf

/-- `finish(code)`: the command ends, its code in `STATUS.RESULT`, and no universe is being processed
(00_scope.md R13; 10_state.md R21). -/
def State.finish (s : State) (code : ResultCode) : State := (s.setResult code).setLoopIndex none

/-- An event is observed (00_scope.md R9). -/
def State.emit (s : State) (e : Event) : State := { s with obs := s.obs ++ [e] }

/-- The answer the transport gives to the call after the next `k` ones: the scripted one if there is one, else a
free draw (00_scope.md R8; log 5). -/
def State.answerAt (s : State) (k : Nat) : Answer := (s.answers[k]?).getD (Config.transportAnswer (s.draws + k))

/-- The answer the transport gives to the next call. -/
def State.answer (s : State) : Answer := s.answerAt 0

/-- One answer of the transport is used up. -/
def State.takeAnswer (s : State) : State := { s with answers := s.answers.tail, draws := s.draws + 1 }

/-- A call to the transport that takes an answer: the call is observed and the answer is used up
(log 14). -/
def State.callTransport (s : State) (e : Event) : State := (s.emit e).takeAnswer

/-- `RESET` (70_reset_and_hazards.md R330 to R332): an open session is closed at the transport, every piece of the
block's state takes its reset value, and `FAULT` stays. What is not the block's stays too: the parameters, the frame
memory (R331), the host's moves, the transport and the observation. -/
def State.applyReset (s : State) : State :=
  let closed := if s.session then s.emit .transportClose else s
  { State.reset with
    params := s.params
    fault := s.fault
    frame := s.frame
    pending := s.pending
    answers := s.answers
    draws := s.draws
    obs := closed.obs }

end Sys2Proof.Machine
end

