-- ==== Sys2Proof/Machine/Chunker.lean ====
section
/-! DEFINITION. The universe chunker (40_chunker.md): pure functions of the frame length, the base universe and the
chunk index (R154). -/

namespace Sys2Proof.Machine

/-- `CHUNK_COUNT(L)` (40_chunker.md R150). -/
def chunkCount (len : Nat) : Nat := (len + 511) / 512

/-- The first frame address of chunk `i` (40_chunker.md R151). -/
def chunkStart (i : Nat) : Nat := i * 512

/-- The length of chunk `i` (40_chunker.md R151). -/
def chunkLength (len i : Nat) : Nat := min len ((i + 1) * 512) - chunkStart i

/-- The bytes of chunk `i`, or the address of the first one the host has not defined (40_chunker.md R151;
20_memory.md R61). -/
def State.chunk (s : State) (len i : Nat) : Except Nat Bytes := s.frame.readRun (chunkStart i) (chunkLength len i)

/-- `CHUNK_UNIVERSE(U0, i)`, not reduced (40_chunker.md R152). -/
def chunkUniverse (base i : Nat) : Nat := base + i

end Sys2Proof.Machine
end

