-- ==== Sys2Proof/Machine/Flags.lean ====
section
/-! DEFINITION. The block has no condition flags (10_state.md R22); the outcome of a command stands in `STATUS`.
This file gives the codes and the words of `STATUS` and `CTRL`. -/

namespace Sys2Proof.Machine

/-- The number of a result code (10_state.md R33). -/
def ResultCode.code : ResultCode → BitVec 4
  | .ok => 0
  | .usage => 1
  | .validation => 2
  | .transport => 3
  | .range => 4
  | .illegal => 5

/-- The value of `CTRL.PROTO` (10_state.md R24). -/
def Protocol.bit : Protocol → BitVec 1
  | .artnet => 0
  | .e131 => 1

/-- The encoder that a value of `CTRL.PROTO` selects (10_state.md R24). -/
def Protocol.ofBit (b : Bool) : Protocol := if b then .e131 else .artnet

/-- The word of `CTRL` (45_register_access.md R267). -/
def State.ctrlWord (s : State) : Word := s.proto.bit.setWidth 32

/-- The word of `STATUS`: `RESULT` in bits 7:4 and `SESSION` in bit 0 (10_state.md R25; 45_register_access.md
R267). -/
def State.statusWord (s : State) : Word :=
  s.result.code.setWidth 32 <<< 4 ||| (BitVec.ofBool s.session).setWidth 32

end Sys2Proof.Machine
end

