-- ==== Sys2Proof/Machine/Operands.lean ====
section
/-! DEFINITION. The operands: the registers by address, what reading and writing one does (45_register_access.md
R267, R268), and what a send samples at its start (43_frame_send.md R231). -/

namespace Sys2Proof.Machine

/-- The nine interface registers (10_state.md R23). -/
inductive Register where
  | ctrl
  | status
  | artnetStart
  | e131Start
  | dest
  | frameLen
  | seq
  | pktCount
  | cmd
deriving DecidableEq, Repr

/-- A register's byte address (10_state.md R23). -/
def Register.addr : Register → BitVec 8
  | .ctrl => 0x00
  | .status => 0x04
  | .artnetStart => 0x08
  | .e131Start => 0x0C
  | .dest => 0x10
  | .frameLen => 0x14
  | .seq => 0x18
  | .pktCount => 0x1C
  | .cmd => 0x20

/-- The register at a byte address; none where the address is misaligned or unmapped (20_memory.md R66, R69). -/
def Register.ofAddr (addr : BitVec 8) : Option Register :=
  if addr = 0x00 then some .ctrl
  else if addr = 0x04 then some .status
  else if addr = 0x08 then some .artnetStart
  else if addr = 0x0C then some .e131Start
  else if addr = 0x10 then some .dest
  else if addr = 0x14 then some .frameLen
  else if addr = 0x18 then some .seq
  else if addr = 0x1C then some .pktCount
  else if addr = 0x20 then some .cmd
  else none

/-- `READ_VALUE` (45_register_access.md R267). -/
def State.readValue (s : State) : Register → Word
  | .ctrl => s.ctrlWord
  | .status => s.statusWord
  | .artnetStart => s.artnetStart.setWidth 32
  | .e131Start => s.e131Start.setWidth 32
  | .dest => s.dest
  | .frameLen => s.frameLen
  | .seq => s.seq.setWidth 32
  | .pktCount => s.pktCount
  | .cmd => 0

/-- `WRITE_EFFECT` (45_register_access.md R268). A write to `CMD` does not come here: it is a command (R270). -/
def State.writeEffect (s : State) (data : Word) : Register → State
  | .ctrl => s.setProto (Protocol.ofBit (data.getLsbD 0))
  | .status => s
  | .artnetStart => s.setArtnetStart (data.extractLsb' 0 16)
  | .e131Start => s.setE131Start (data.extractLsb' 0 16)
  | .dest => s.setDest data
  | .frameLen => s.setFrameLen data
  | .seq => s
  | .pktCount => s
  | .cmd => s

/-- The start universe of the active protocol (43_frame_send.md R220). -/
def State.startUniverse (s : State) : Nat :=
  match s.proto with
  | .artnet => s.artnetStart.toNat
  | .e131 => s.e131Start.toNat

/-- The destination port of a protocol (30_encoding.md R96). -/
def Protocol.port : Protocol → Nat
  | .artnet => 6454
  | .e131 => 5568

/-- What a send command samples once, at its start (43_frame_send.md R231). -/
structure SendArgs where
  proto : Protocol
  len : Nat
  dest : Word
  base : Nat
deriving DecidableEq, Repr

/-- The operands of a send with base universe `base` (43_frame_send.md R222, R231). -/
def State.sample (s : State) (base : Nat) : SendArgs where
  proto := s.proto
  len := s.frameLen.toNat
  dest := s.dest
  base := base

end Sys2Proof.Machine
end

