-- ==== Sys2Proof/Machine/Wire.lean ====
section
/-! DEFINITION. The two datagram formats byte by byte (30_encoding.md R96 to R133) and reading their headers back
(R134, R135). -/

namespace Sys2Proof.Machine

/-- Bits `8k+7` down to `8k` of a natural number. -/
def byteOf (v k : Nat) : Byte := BitVec.ofNat 8 (v >>> (8 * k))

/-- `be16(v)` (00_scope.md R12). -/
def be16 (v : Nat) : Bytes := [byteOf v 1, byteOf v 0]

/-- `le16(v)` (00_scope.md R12). -/
def le16 (v : Nat) : Bytes := [byteOf v 0, byteOf v 1]

/-- `be32(v)` (00_scope.md R12). -/
def be32 (v : Nat) : Bytes := [byteOf v 3, byteOf v 2, byteOf v 1, byteOf v 0]

/-- `pad(s, n)` (00_scope.md R12), which is defined for at most `n` bytes; a longer string, which no parameter may
be, is cut (log 4). -/
def pad (s : Bytes) (n : Nat) : Bytes := s.take n ++ zeros (n - s.length)

/-- `ARTNET_ID`: its last byte is 0x00 (30_encoding.md R101). -/
def artnetId (p : Params) : Bytes := p.artnetName.toList ++ [0x00]

/-- `ArtNetHeader(u)`, 18 bytes (30_encoding.md R100 to R107). -/
def artnetHeader (p : Params) (u : Nat) : Bytes :=
  artnetId p ++ le16 0x5000 ++ be16 14 ++ [0x00] ++ [0x00] ++ le16 u ++ be16 512

/-- `PduLen(f)` (30_encoding.md R111). -/
def pduLen (f : Nat) : Nat := 638 - f

/-- `FL(f)` (30_encoding.md R111). -/
def flagsLength (p : Params) (f : Nat) : Bytes := be16 (p.flagNibble.toNat <<< 12 ||| (pduLen f &&& 0x0FFF))

/-- Bytes 0 to 37: the Root layer (30_encoding.md R112 to R117). -/
def rootLayer (p : Params) : Bytes :=
  p.rootPrefix.toList ++ flagsLength p 16 ++ be32 0x00000004 ++ p.cid.toList

/-- Bytes 38 to 114: the Framing layer (30_encoding.md R118 to R125). -/
def framingLayer (p : Params) (u : Nat) (s : Byte) : Bytes :=
  flagsLength p 38 ++ be32 0x00000002 ++ pad p.sourceName 64 ++ [0x00] ++ [0x00, 0x00] ++ [s] ++ [0x00] ++ be16 u

/-- Bytes 115 to 125: the DMP layer up to the payload (30_encoding.md R126 to R132). -/
def dmpLayer (p : Params) : Bytes :=
  flagsLength p 115 ++ [0x02] ++ [0xA1] ++ be16 0x0000 ++ be16 0x0001 ++ be16 0x0201 ++ [0x01]

/-- `E131Header(u, s)`, 126 bytes (30_encoding.md R110). -/
def e131Header (p : Params) (u : Nat) (s : Byte) : Bytes := rootLayer p ++ framingLayer p u s ++ dmpLayer p

/-- The header a protocol's packet carries (30_encoding.md R96). -/
def header (p : Params) (proto : Protocol) (u : Nat) (s : Byte) : Bytes :=
  match proto with
  | .artnet => artnetHeader p u
  | .e131 => e131Header p u s

/-- The length of a protocol's header (30_encoding.md R100, R110). -/
def Protocol.headerLength : Protocol → Nat
  | .artnet => 18
  | .e131 => 126

/-- The 512 payload bytes of a chunk: its bytes, then zeros (30_encoding.md R108, R133). -/
def payload (chunk : Bytes) : Bytes := pad chunk 512

/-- The byte at an offset of a datagram, as a number (00_scope.md R10). -/
def byteAt (p : Bytes) (k : Nat) : Nat := (p.getD k 0).toNat

/-- The opcode read back from an ArtDMX header (30_encoding.md R134). -/
def artnetOpcode (p : Bytes) : Nat := byteAt p 8 ||| byteAt p 9 <<< 8

/-- The protocol version read back from an ArtDMX header (30_encoding.md R134). -/
def artnetVersion (p : Bytes) : Nat := byteAt p 10 <<< 8 ||| byteAt p 11

/-- The universe read back from an ArtDMX header (30_encoding.md R134). -/
def artnetUniverse (p : Bytes) : Nat := byteAt p 14 ||| byteAt p 15 <<< 8

/-- The universe read back from an E1.31 header (30_encoding.md R135). -/
def e131Universe (p : Bytes) : Nat := byteAt p 113 <<< 8 ||| byteAt p 114

/-- The sequence value read back from an E1.31 header (30_encoding.md R135). -/
def e131Sequence (p : Bytes) : Nat := byteAt p 111

end Sys2Proof.Machine
end

