-- ==== Sys2Proof/Machine/Encoder.lean ====
section
/-! DEFINITION. The two encoders: ENCODE_ARTNET (41_artnet_encoder.md) and ENCODE_E131 (42_e131_encoder.md). Each
builds one packet in its universe's pool buffer from the bytes of a chunk. -/

namespace Sys2Proof.Machine

/-- The `POOL_A` buffer of `u`, allocated with its header if there is none (41_artnet_encoder.md R171). -/
def State.artnetBuffer (s : State) (u : Nat) : Bytes :=
  (s.poolA.get u).getD (artnetHeader s.params u ++ zeros 512)

/-- `ENCODE_ARTNET(u, c)` (41_artnet_encoder.md R170): the payload overwrites the buffer from offset 18 on. -/
def encodeArtnet (u : Nat) (chunk : Bytes) (s : State) : Bytes × State :=
  let packet := (s.artnetBuffer u).take 18 ++ payload chunk
  (packet, s.setPoolA (s.poolA.put u packet))

/-- The `POOL_E` buffer of `u`, allocated with its header if there is none (42_e131_encoder.md R191). -/
def State.e131Buffer (s : State) (u : Nat) : Bytes :=
  (s.poolE.get u).getD (e131Header s.params u 0 ++ zeros 512)

/-- `SEQ <- (SEQ + 1) mod 256` (42_e131_encoder.md R192). -/
def State.advanceSeq (s : State) : State := s.setSeq (s.seq + 1)

/-- `ENCODE_E131(u, c)` (42_e131_encoder.md R190): `SEQ` goes to byte 111, the payload overwrites the buffer from
offset 126 on, and `SEQ` advances here unless the advance is deferred (R192, R197). -/
def encodeE131 (u : Nat) (chunk : Bytes) (s : State) : Bytes × State :=
  let packet := ((s.e131Buffer u).set 111 s.seq).take 126 ++ payload chunk
  let built := s.setPoolE (s.poolE.put u packet)
  (packet, if s.params.seqAdvanceOnFail then built.advanceSeq else built)

/-- The packet of universe `u` under a protocol, and the state after building it (43_frame_send.md R222). -/
def encodePacket (proto : Protocol) (u : Nat) (chunk : Bytes) (s : State) : Bytes × State :=
  match proto with
  | .artnet => encodeArtnet u chunk s
  | .e131 => encodeE131 u chunk s

end Sys2Proof.Machine
end

