-- ==== Sys2Proof/Machine/Send.lean ====
section
/-! DEFINITION. The send commands SEND_FRAME and ENCODE_SEND and the procedure FRAME_SEND they run
(43_frame_send.md). -/

namespace Sys2Proof.Machine

/-- How one micro-step of a send ends (00_scope.md R7). -/
inductive MicroStep where
  /-- A frame byte was undefined (20_memory.md R61). -/
  | fault (f : Fault)
  /-- The transport answered `fail` (43_frame_send.md R228). -/
  | failed (s : State)
  /-- The transport answered `ok`. -/
  | sent (s : State)
deriving DecidableEq, Repr

/-- After a `TransportSend` that returned `ok`: the deferred advance of `SEQ` (42_e131_encoder.md R197), one packet
more (43_frame_send.md R230), and the next universe. -/
def State.afterOk (s : State) (args : SendArgs) (i : Nat) : State :=
  let advanced := if args.proto = .e131 ∧ s.params.seqAdvanceOnFail = false then s.advanceSeq else s
  (advanced.setPktCount (advanced.pktCount + 1)).setLoopIndex (some (i + 1))

/-- TRANSPORT_SEND (43_frame_send.md R227) of a packet that has been built, and what its answer leads to. -/
def handOver (args : SendArgs) (i : Nat) (packet : Bytes) (s : State) : MicroStep :=
  let called := s.callTransport (.transportSend ⟨packet, args.dest, args.proto.port⟩)
  match s.answer with
  | .fail => .failed called
  | .ok => .sent (called.afterOk args i)

/-- The universe loop index (10_state.md R21). -/
def State.index (s : State) : Nat := s.loopIndex.getD 0

/-- One pass of the universe loop: build the packet of the current universe and hand it over
(43_frame_send.md R222, R226). -/
def sendUniverse (args : SendArgs) (s : State) : MicroStep :=
  match s.chunk args.len s.index with
  | .error a => .fault (.frameFault a s.obs)
  | .ok chunk =>
    let built := encodePacket args.proto (chunkUniverse args.base s.index) chunk s
    handOver args s.index built.1 built.2

/-- The universe loop over the next `n` universes (43_frame_send.md R222, R226, R228, R229). -/
def sendLoop (args : SendArgs) : Nat → State → Result
  | 0, s => .next (s.finish .ok)
  | n + 1, s =>
    match sendUniverse args s with
    | .fault f => .fault f
    | .failed t => .next (t.finish .transport)
    | .sent t => sendLoop args n t

/-- Why a send of base universe `base` ends before its loop, if it does (43_frame_send.md R223 to R225, in the order
of 60_exceptions.md R304). -/
def State.sendCheck (s : State) (base : Nat) : Option ResultCode :=
  if s.frameLen.toNat = 0 then some .validation
  else if base + chunkCount s.frameLen.toNat - 1 > 65535 then some .range
  else if s.session = false then some .usage
  else none

/-- `FRAME_SEND(base)` (43_frame_send.md R222), its loop run for `rounds n` of the `n` universes. -/
def frameSendFor (rounds : Nat → Nat) (base : Nat) (s : State) : Result :=
  let started := s.setPktCount 0
  match s.sendCheck base with
  | some code => .next (started.finish code)
  | none => sendLoop (s.sample base) (rounds (chunkCount s.frameLen.toNat)) (started.setLoopIndex (some 0))

/-- `FRAME_SEND(base)` (43_frame_send.md R222). -/
def frameSend (base : Nat) (s : State) : Result := frameSendFor id base s

/-- `SEND_FRAME` (43_frame_send.md R220). -/
def execSendFrame (s : State) : Result := frameSend s.startUniverse s

/-- `ENCODE_SEND base` (43_frame_send.md R221). -/
def execEncodeSend (base : Nat) (s : State) : Result := frameSend base s

end Sys2Proof.Machine
end

