-- ==== Sys2Proof/Machine/Session.lean ====
section
/-! DEFINITION. The transport session commands OPEN and CLOSE (44_session.md). -/

namespace Sys2Proof.Machine

/-- The state after `OPEN` (44_session.md R250). -/
def State.afterOpen (s : State) : State :=
  if s.session then s.finish .usage
  else
    let called := s.callTransport .transportOpen
    match s.answer with
    | .fail => called.finish .transport
    | .ok => (called.setSession true).finish .ok

/-- The state after `CLOSE` (44_session.md R251). -/
def State.afterClose (s : State) : State :=
  if s.session then ((s.emit .transportClose).setSession false).finish .ok else s.finish .ok

/-- `OPEN` (44_session.md R250). -/
def execOpenSession (s : State) : Result := .next s.afterOpen

/-- `CLOSE` (44_session.md R251). -/
def execCloseSession (s : State) : Result := .next s.afterClose

end Sys2Proof.Machine
end

