-- ==== Sys2Proof/Machine/Bus.lean ====
section
/-! DEFINITION. The bus transactions REG_READ and REG_WRITE, the dispatch of a command word, and ILLEGAL
(45_register_access.md). -/

namespace Sys2Proof.Machine

/-- `ILLEGAL` (45_register_access.md R271). -/
def illegalCommand (s : State) : Result := .next (s.finish .illegal)

/-- `DISPATCH(w)` (45_register_access.md R270). -/
def dispatch (w : Word) (s : State) : Result :=
  if w = 0x00000001 then execOpenSession s
  else if w = 0x00000002 then execCloseSession s
  else if w = 0x00000003 then execSendFrame s
  else if w.extractLsb' 0 16 = 0x0004 then execEncodeSend (w.extractLsb' 16 16).toNat s
  else illegalCommand s

/-- `REG_READ addr` (45_register_access.md R265, R269): the value read goes to the host. -/
def execRegRead (addr : BitVec 8) (s : State) : Result :=
  match Register.ofAddr addr with
  | none => .fault (.busFault addr)
  | some r => .next (s.emit (.busRead addr (s.readValue r)))

/-- `REG_WRITE addr, data` (45_register_access.md R266, R269). -/
def execRegWrite (addr : BitVec 8) (data : Word) (s : State) : Result :=
  match Register.ofAddr addr with
  | none => .fault (.busFault addr)
  | some .cmd => dispatch data s
  | some r => .next (s.writeEffect data r)

end Sys2Proof.Machine
end

