-- ==== Sys2Proof/Machine/Dispatch.lean ====
section
/-! DEFINITION. What each instruction does: one arm per constructor, each a call of that instruction's meaning. -/

namespace Sys2Proof.Machine

def exec (i : Instr) (s : State) : Host.Outcome State Fault Refusal :=
  match i with
  | .openSession => Sys2Proof.Machine.execOpenSession s
  | .closeSession => Sys2Proof.Machine.execCloseSession s
  | .sendFrame => Sys2Proof.Machine.execSendFrame s
  | .encodeSend base => Sys2Proof.Machine.execEncodeSend base s
  | .regRead addr => Sys2Proof.Machine.execRegRead addr s
  | .regWrite addr data => Sys2Proof.Machine.execRegWrite addr data s

end Sys2Proof.Machine
end

