-- ==== Sys2Proof/Machine/HostMoves.lean ====
section
/-! DEFINITION. What each move of the host makes the block do (70_reset_and_hazards.md R342), `RESET` during a
command among them (R333). -/

namespace Sys2Proof.Machine

/-- `RESET` after what a step answered: a step that went on is followed by reset, a fault stays one
(60_exceptions.md R302). -/
def thenReset : Result → Result
  | .next s => .next s.applyReset
  | .fault f => .fault f
  | .refused r => .refused r

/-- The base universe of the send that an instruction issues, if it issues one: a send command, or a write of its
word to `CMD` (45_register_access.md R270). -/
def sendBase : Instr → State → Option Nat
  | .openSession, _ => none
  | .closeSession, _ => none
  | .sendFrame, s => some s.startUniverse
  | .encodeSend base, _ => some base
  | .regRead _, _ => none
  | .regWrite addr data, s =>
    if addr = 0x20 then
      if data = 0x00000003 then some s.startUniverse
      else if data.extractLsb' 0 16 = 0x0004 then some (data.extractLsb' 16 16).toNat
      else none
    else none

/-- A transaction during whose command `RESET` is asserted once `after` datagrams have been handed over: a send is
abandoned there (70_reset_and_hazards.md R333); any other transaction is one atomic step (20_memory.md R68), and
reset follows it (log 9). -/
def execThenReset (i : Instr) (after : Nat) (s : State) : Result :=
  match sendBase i s with
  | some base => thenReset (frameSendFor (fun n => min after n) base s)
  | none => thenReset (exec i s)

/-- One move of the host, taken to its end (00_scope.md R7). -/
def takeMove (m : HostMove) (s : State) : Result :=
  match m with
  | .bus w => exec (decodeBus w) s
  | .place addr value => .next (s.setFrame (s.frame.write addr value))
  | .reset => .next s.applyReset
  | .busReset w after => execThenReset (decodeBus w) after s

/-- The machine's step: once `FAULT` is set no step occurs (10_state.md R39); with no move of the host the block is
idle (70_reset_and_hazards.md R334); else the host's next move is taken. -/
def stepOf (s : State) : Result :=
  if s.fault then .fault .halted
  else
    match s.pending with
    | [] => .next s
    | m :: rest => takeMove m (s.setPending rest)

/-- The bus word that makes the host issue a table word: up to 32 bits it is a command word, written to `CMD`
(30_encoding.md R142; log 8), above that the bus word itself. -/
def tableTransaction (nbits w : Nat) : BitVec 41 :=
  if nbits ≤ 32 then writeCmdWord (BitVec.ofNat 32 w) else BitVec.ofNat 41 w

end Sys2Proof.Machine
end

