-- ==== Sys2Proof/Machine/Step.lean ====
section
/-! DEFINITION. The step of the machine, and placing an instruction where the next step takes it. -/

namespace Sys2Proof.Machine

/-- One step of the block: one move of the host (00_scope.md R7). -/
def step (s : State) : Host.Outcome State Fault Refusal := stepOf s

/-- `s` with the host about to issue the table word `w` (log 6, log 8). -/
def State.withFetchWord (s : State) (nbits w : Nat) : State :=
  s.setPending (.bus (tableTransaction nbits w) :: s.pending)

end Sys2Proof.Machine
end

