-- ==== Sys2Proof/Machine/Assembler.lean ====
section
/-! DEFINITION. The spec's assembler (30_encoding.md R140 to R143): lines as data, the bus word each assembles to, and
the reading of a program's text (log 23). -/

namespace Sys2Proof.Machine

/-- A line of a program (30_encoding.md R141 to R143). -/
inductive AsmLine where
  /-- `WR <reg>, <value>` -/
  | wr (r : Register) (value : Nat)
  /-- `RD <reg>` -/
  | rd (r : Register)
  /-- `OPEN` -/
  | openSession
  /-- `CLOSE` -/
  | closeSession
  /-- `SEND_FRAME` -/
  | sendFrame
  /-- `ENCODE_SEND <base>` -/
  | encodeSend (base : Nat)
  /-- `PROTO ARTNET` or `PROTO E131` -/
  | proto (p : Protocol)
  /-- `DEST a.b.c.d` -/
  | dest (a b c d : Nat)
  /-- `LEN n` -/
  | len (n : Nat)
  /-- `START_ARTNET n` -/
  | startArtnet (n : Nat)
  /-- `START_E131 n` -/
  | startE131 (n : Nat)
  /-- `RESULT?` -/
  | resultQuery
deriving DecidableEq, Repr

/-- The bus word of `WR r, value`; a value of more than 32 bits is refused. -/
def asmWrite (r : Register) (value : Nat) : Option (BitVec 41) :=
  if value < 2 ^ 32 then some (BitVec.ofNat 41 (Instr.regWrite r.addr (BitVec.ofNat 32 value)).word) else none

/-- The bus word of `RD r` (30_encoding.md R141). -/
def asmRead (r : Register) : BitVec 41 := BitVec.ofNat 41 (Instr.regRead r.addr).word

/-- The bus word of a line, or none where an operand is out of its range (30_encoding.md R141 to R143). -/
def assemble : AsmLine → Option (BitVec 41)
  | .wr r value => asmWrite r value
  | .rd r => some (asmRead r)
  | .openSession => asmWrite .cmd 0x00000001
  | .closeSession => asmWrite .cmd 0x00000002
  | .sendFrame => asmWrite .cmd 0x00000003
  | .encodeSend base => if base ≤ 65535 then asmWrite .cmd (base <<< 16 ||| 0x04) else none
  | .proto .artnet => asmWrite .ctrl 0
  | .proto .e131 => asmWrite .ctrl 1
  | .dest a b c d =>
    if a ≤ 255 ∧ b ≤ 255 ∧ c ≤ 255 ∧ d ≤ 255 then asmWrite .dest (a <<< 24 ||| b <<< 16 ||| c <<< 8 ||| d) else none
  | .len n => asmWrite .frameLen n
  | .startArtnet n => if n ≤ 65535 then asmWrite .artnetStart n else none
  | .startE131 n => if n ≤ 65535 then asmWrite .e131Start n else none
  | .resultQuery => some (asmRead .status)

/-- The pieces of a text between the characters that `sep` picks. -/
def splitText (sep : Char → Bool) : List Char → List (List Char)
  | [] => [[]]
  | c :: cs =>
    if sep c then [] :: splitText sep cs
    else
      match splitText sep cs with
      | [] => [[c]]
      | piece :: pieces => (c :: piece) :: pieces

/-- The words of a line: its text up to `;`, cut at blanks and commas. -/
def asmTokens (line : List Char) : List (List Char) :=
  (splitText (fun c => c = ' ' ∨ c = '\t' ∨ c = '\r' ∨ c = ',') (line.takeWhile (· ≠ ';'))).filter (· ≠ [])

/-- The value of a digit. -/
def digitValue (c : Char) : Option Nat :=
  let n := c.toNat
  if 48 ≤ n ∧ n ≤ 57 then some (n - 48)
  else if 65 ≤ n ∧ n ≤ 70 then some (n - 55)
  else if 97 ≤ n ∧ n ≤ 102 then some (n - 87)
  else none

/-- The number that digits of a base denote, with `acc` before them. -/
def digitsValue (base : Nat) (acc : Nat) : List Char → Option Nat
  | [] => some acc
  | c :: cs =>
    match digitValue c with
    | some d => if d < base then digitsValue base (acc * base + d) cs else none
    | none => none

/-- A number of a program: decimal, or hexadecimal after `0x` (30_encoding.md R140). -/
def asmNumber : List Char → Option Nat
  | [] => none
  | '0' :: 'x' :: [] => none
  | '0' :: 'x' :: digits => digitsValue 16 0 digits
  | digits => digitsValue 10 0 digits

/-- The registers by name (30_encoding.md R140). -/
def registerNames : List (String × Register) :=
  [("CTRL", .ctrl), ("STATUS", .status), ("ARTNET_START", .artnetStart), ("E131_START", .e131Start), ("DEST", .dest),
    ("FRAME_LEN", .frameLen), ("SEQ", .seq), ("PKT_COUNT", .pktCount), ("CMD", .cmd)]

/-- The register of a name. -/
def asmRegister (name : List Char) : Option Register :=
  (registerNames.find? fun entry => entry.1.toList = name).map Prod.snd

/-- The numbers of an address `a.b.c.d`. -/
def asmAddress (text : List Char) : Option AsmLine :=
  match (splitText (· = '.') text).map asmNumber with
  | [some a, some b, some c, some d] => some (.dest a b c d)
  | _ => none

/-- A line without operands. -/
def asmPlain (op : List Char) : Option AsmLine :=
  if op = "OPEN".toList then some .openSession
  else if op = "CLOSE".toList then some .closeSession
  else if op = "SEND_FRAME".toList then some .sendFrame
  else if op = "RESULT?".toList then some .resultQuery
  else none

/-- A line with one operand. -/
def asmUnary (op arg : List Char) : Option AsmLine :=
  if op = "RD".toList then (asmRegister arg).map .rd
  else if op = "ENCODE_SEND".toList then (asmNumber arg).map .encodeSend
  else if op = "PROTO".toList then
    if arg = "ARTNET".toList then some (.proto .artnet)
    else if arg = "E131".toList then some (.proto .e131)
    else none
  else if op = "DEST".toList then asmAddress arg
  else if op = "LEN".toList then (asmNumber arg).map .len
  else if op = "START_ARTNET".toList then (asmNumber arg).map .startArtnet
  else if op = "START_E131".toList then (asmNumber arg).map .startE131
  else none

/-- A line with two operands: `WR <reg>, <value>`. -/
def asmBinary (op arg value : List Char) : Option AsmLine :=
  if op = "WR".toList then
    match asmRegister arg, asmNumber value with
    | some r, some n => some (.wr r n)
    | _, _ => none
  else none

/-- The bus word of a line of text: `some none` for a blank line or a comment, `none` for a line the assembler does
not read. -/
def assembleText (line : List Char) : Option (Option (BitVec 41)) :=
  match asmTokens line with
  | [] => some none
  | [op] => ((asmPlain op).bind assemble).map some
  | [op, arg] => ((asmUnary op arg).bind assemble).map some
  | [op, arg, value] => ((asmBinary op arg value).bind assemble).map some
  | _ => none

/-- The host moves of lines of text, one transaction per line (30_encoding.md R140). -/
def assembleLines : List (List Char) → Option (List HostMove)
  | [] => some []
  | line :: lines =>
    match assembleText line, assembleLines lines with
    | some none, some moves => some moves
    | some (some w), some moves => some (.bus w :: moves)
    | _, _ => none

/-- The host moves of a program's text (30_encoding.md R140). -/
def assembleProgram (text : String) : Option (List HostMove) :=
  assembleLines (splitText (· = '\n') text.toList)

end Sys2Proof.Machine
end

