-- ==== Sys2Proof/Safety.lean ====
section
/-! DEFINITION. What the statements speak of: the invariant of the machine, the frame the host owes a send, and the
datagrams the spec says a send hands over. -/

namespace Sys2Proof.Machine

/-- `SOURCE_NAME` is at most 64 bytes long (00_scope.md R6). -/
abbrev paramsWf (p : Params) : Prop := p.sourceName.length ≤ 64

/-- `POOL_A` is canonical and every buffer is the one R36 of 10_state.md describes: 530 bytes, the first 18 the
header of its universe. -/
abbrev poolAWf (p : Params) (m : Pool) : Prop :=
  CellsSorted m ∧ ∀ c ∈ m, c.1 ≤ 65535 ∧ c.2.length = 530 ∧ c.2.take 18 = artnetHeader p c.1

/-- `POOL_E` is canonical and every buffer is the one R36 of 10_state.md describes: 638 bytes, the first 126 the
header of its universe with the sequence value that byte 111 holds. -/
abbrev poolEWf (p : Params) (m : Pool) : Prop :=
  CellsSorted m ∧ ∀ c ∈ m, c.1 ≤ 65535 ∧ c.2.length = 638 ∧ c.2.take 126 = e131Header p c.1 (c.2.getD 111 0)

/-- The invariant of the machine between steps. -/
structure State.Inv (s : State) : Prop where
  params : paramsWf s.params
  poolA : poolAWf s.params s.poolA
  poolE : poolEWf s.params s.poolE
  frame : s.frame.wf
  pktCount : s.pktCount.toNat ≤ 65536
  idle : s.loopIndex = none
  unfaulted : s.fault = false

/-- The number of universes of the current frame (40_chunker.md R150). -/
abbrev State.universes (s : State) : Nat := chunkCount s.frameLen.toNat

/-- The host has defined every byte of the current frame (20_memory.md R61). -/
def State.FrameDefined (s : State) : Prop := ∀ a, a < s.frameLen.toNat → (s.frame.read a).isSome

/-- The checks of a send with base universe `base` all pass (43_frame_send.md R223 to R225). -/
structure State.SendReady (s : State) (base : Nat) : Prop where
  nonempty : s.frameLen.toNat ≠ 0
  inRange : base + s.universes - 1 ≤ 65535
  session : s.session = true

/-- The pool of a protocol's encoder (10_state.md R24, R35). -/
def State.poolOf (s : State) : Protocol → Pool
  | .artnet => s.poolA
  | .e131 => s.poolE

/-- The 512 payload bytes of universe `i` of the frame: the frame's bytes, and 0x00 past its end
(43_frame_send.md R232). -/
def State.framePayload (s : State) (i : Nat) : Bytes :=
  (List.range 512).map fun j =>
    if i * 512 + j < s.frameLen.toNat then (s.frame.read (i * 512 + j)).getD 0 else 0

/-- The datagram of universe `base + i` of the frame, the i-th of a send that starts in `s` (43_frame_send.md R222,
R232): its header carries, under E1.31, the i-th sequence value from `SEQ` on. -/
def State.frameDatagram (s : State) (base i : Nat) : Datagram where
  bytes := header s.params s.proto (base + i) (s.seq + BitVec.ofNat 8 i) ++ s.framePayload i
  dest := s.dest
  port := s.proto.port

/-- The transport calls of the first `k` universes of a send that starts in `s`. -/
def State.frameSends (s : State) (base k : Nat) : List Event :=
  (List.range k).map fun i => .transportSend (s.frameDatagram base i)

/-- The instruction that sends the frame from base universe `base` when it is issued in `s`: `SEND_FRAME` from the
start universe of the active protocol, or `ENCODE_SEND base` (43_frame_send.md R220, R221). -/
def SendsFrom (i : Instr) (s : State) (base : Nat) : Prop :=
  (i = .sendFrame ∧ base = s.startUniverse) ∨ i = .encodeSend base

/-- The number of E1.31 datagrams in an observation: those sent to port 5568 (30_encoding.md R96). -/
def e131Sends : List Event → Nat
  | [] => 0
  | .transportSend d :: rest => (if d.port = 5568 then 1 else 0) + e131Sends rest
  | .transportOpen :: rest => e131Sends rest
  | .transportClose :: rest => e131Sends rest
  | .busRead _ _ :: rest => e131Sends rest

/-- The sequence values of the E1.31 datagrams in an observation, in order: their bytes at offset 111
(30_encoding.md R123). -/
def e131SequencesOf : List Event → Bytes
  | [] => []
  | .transportSend d :: rest => (if d.port = 5568 then [d.bytes.getD 111 0] else []) ++ e131SequencesOf rest
  | .transportOpen :: rest => e131SequencesOf rest
  | .transportClose :: rest => e131SequencesOf rest
  | .busRead _ _ :: rest => e131SequencesOf rest

/-- `k` steps, up to the first fault or refusal: a run (00_scope.md R9). -/
def stepMany : Nat → State → Result
  | 0, s => .next s
  | k + 1, s =>
    match step s with
    | .next t => stepMany k t
    | .fault f => .fault f
    | .refused r => .refused r

/-- A command: an instruction of the `CMD` format (30_encoding.md R91). -/
def IsCommand : Instr → Prop
  | .openSession => True
  | .closeSession => True
  | .sendFrame => True
  | .encodeSend _ => True
  | .regRead _ => False
  | .regWrite _ _ => False

end Sys2Proof.Machine
end

