-- ==== Sys2Proof/Certificates/Slice0/Obligations.lean ====
section
/-! DEFINITION. What is claimed of the model, one definition per claim. -/

open Sys2Proof Sys2Proof.Machine

/-! ## Encoding -/

/-- Decoding an encoded well-formed instruction gives it back, at every value of its operands (30_encoding.md R90 to
R95). The bytes a word is laid out in are the model's choice (log 7). -/
def Obligations.DecodeOfEncodeIsTheInstruction : Prop :=
  ∀ i : Instr, i.WellFormed → decode (encode i) = .ok i

/-- A bus word is its `rw` bit, its address and its data, in this order from the top (30_encoding.md R90). -/
def Obligations.BusWordIsReadWriteBitAddressAndData : Prop :=
  ∀ (rw : Bool) (addr : BitVec 8) (data : Word),
    decodeBus (BitVec.ofNat 41 (rw.toNat * 2 ^ 40 + addr.toNat * 2 ^ 32 + data.toNat)) =
      if rw then .regWrite addr data else .regRead addr

/-- The command opcode map, both ways: a word decodes to a command exactly where the map has it, and a transaction
is a read or a write by its `rw` bit, at any address (30_encoding.md R92). -/
def Obligations.CommandWordsDecodeByTheOpcodeMap : Prop :=
  (∀ (w : Word) (i : Instr),
    decodeCmd w = .ok i ↔
      (w = 0x00000001 ∧ i = .openSession) ∨ (w = 0x00000002 ∧ i = .closeSession) ∨ (w = 0x00000003 ∧ i = .sendFrame) ∨
        (w.extractLsb' 0 16 = 0x0004 ∧ i = .encodeSend (w.extractLsb' 16 16).toNat)) ∧
  (∀ b : BitVec 41,
    (b.getLsbD 40 = false → ∃ addr, decodeBus b = .regRead addr) ∧
    (b.getLsbD 40 = true → ∃ addr data, decodeBus b = .regWrite addr data))

/-- The words that decode to no command are those R93 of 30_encoding.md calls illegal, and writing one to `CMD` sets
`STATUS.RESULT` to `ILLEGAL` and nothing else (45_register_access.md R271); no command is running afterwards. -/
def Obligations.IllegalWordsOnlySetTheResult : Prop :=
  ∀ (w : Word) (s : State),
    ((∃ e, decodeCmd w = .error e) ↔
      ((w.extractLsb' 0 8).toNat = 0x00 ∨ 0x05 ≤ (w.extractLsb' 0 8).toNat) ∨ w.extractLsb' 8 8 ≠ 0 ∨
        (w.extractLsb' 16 16 ≠ 0 ∧ (w.extractLsb' 0 8).toNat ≠ 0x04)) ∧
    ((∃ e, decodeCmd w = .error e) →
      exec (.regWrite 0x20 w) s = .next { s with result := .illegal, loopIndex := none })

/-- Words written out from the spec's encodings (30_encoding.md R90, R92; 95_test_vectors.md V-R2, V-R4). -/
def Obligations.SampleWordsDecode : Prop :=
  decodeTableWord 32 0x00000001 = some .openSession ∧ decodeTableWord 32 0x00000002 = some .closeSession ∧
  decodeTableWord 32 0x00000003 = some .sendFrame ∧ decodeTableWord 32 0x12340004 = some (.encodeSend 0x1234) ∧
  decodeTableWord 48 0x01800000000 = some (.regRead 0x18) ∧
  decodeTableWord 48 0x110C0A80164 = some (.regWrite 0x10 0xC0A80164) ∧ decodeTableWord 32 0x00000104 = none

/-- The assembler's four command mnemonics are writes of their command word to `CMD`, and a base above 65535 is
refused (30_encoding.md R142). -/
def Obligations.CommandMnemonicsAssembleToCmdWrites : Prop :=
  (assemble .openSession).map decodeBus = some (.regWrite 0x20 0x00000001) ∧
  (assemble .closeSession).map decodeBus = some (.regWrite 0x20 0x00000002) ∧
  (assemble .sendFrame).map decodeBus = some (.regWrite 0x20 0x00000003) ∧
  (∀ base, base ≤ 65535 →
    ∃ w : Word, (assemble (.encodeSend base)).map decodeBus = some (.regWrite 0x20 w) ∧
      w.toNat = base * 2 ^ 16 + 4 ∧ decodeCmd w = .ok (.encodeSend base)) ∧
  (∀ base, 65535 < base → assemble (.encodeSend base) = none)

/-- The pseudo-instructions are the writes and the read that R143 of 30_encoding.md expands them to, and an operand
out of its range is refused. -/
def Obligations.PseudoInstructionsExpand : Prop :=
  (assemble (.proto .artnet)).map decodeBus = some (.regWrite 0x00 0) ∧
  (assemble (.proto .e131)).map decodeBus = some (.regWrite 0x00 1) ∧
  (∀ a b c d, a ≤ 255 → b ≤ 255 → c ≤ 255 → d ≤ 255 →
    (assemble (.dest a b c d)).map decodeBus =
      some (.regWrite 0x10 (BitVec.ofNat 32 (a * 2 ^ 24 + b * 2 ^ 16 + c * 2 ^ 8 + d)))) ∧
  (∀ a b c d, 255 < a ∨ 255 < b ∨ 255 < c ∨ 255 < d → assemble (.dest a b c d) = none) ∧
  (∀ n, n < 2 ^ 32 → (assemble (.len n)).map decodeBus = some (.regWrite 0x14 (BitVec.ofNat 32 n))) ∧
  (∀ n, n ≤ 65535 → (assemble (.startArtnet n)).map decodeBus = some (.regWrite 0x08 (BitVec.ofNat 32 n)) ∧
    (assemble (.startE131 n)).map decodeBus = some (.regWrite 0x0C (BitVec.ofNat 32 n))) ∧
  (∀ n, 65535 < n → assemble (.startArtnet n) = none ∧ assemble (.startE131 n) = none) ∧
  (assemble .resultQuery).map decodeBus = some (.regRead 0x04)

/-! ## The step -/

/-- A step of a machine whose host issues a bus word runs the instruction the word decodes to, on the state less
that move; where the word writes a command word to `CMD`, it runs the command that word decodes to (00_scope.md R7;
45_register_access.md R270; 30_encoding.md R142). -/
def Obligations.StepRunsTheDecodedTransaction : Prop :=
  ∀ (s : State) (rest : List HostMove), s.fault = false →
    (∀ w : BitVec 41, s.pending = .bus w :: rest → step s = exec (decodeBus w) { s with pending := rest }) ∧
    (∀ (w : Word) (i : Instr), s.pending = .bus (writeCmdWord w) :: rest → decodeCmd w = .ok i →
      step s = exec i { s with pending := rest })

/-- Writing a command word to `CMD` executes that command (45_register_access.md R270). -/
def Obligations.CmdWriteExecutesTheCommand : Prop :=
  ∀ (w : Word) (i : Instr) (s : State), decodeCmd w = .ok i → exec (.regWrite 0x20 w) s = exec i s

/-- With no move of the host the block is idle and keeps all its state (70_reset_and_hazards.md R334;
60_exceptions.md R313). -/
def Obligations.IdleBlockKeepsItsState : Prop :=
  ∀ s : State, s.fault = false → s.pending = [] → step s = .next s

/-- Once the fault mark is set no later step occurs, and no step that goes on sets it (10_state.md R39;
60_exceptions.md R302). That a fault is the outcome without an end state is the model's form of it (log 10). -/
def Obligations.FaultMarkStopsTheMachine : Prop :=
  (∀ s : State, s.fault = true → step s = .fault .halted) ∧
  (∀ s t : State, step s = .next t → s.fault = false ∧ t.fault = false)

/-- A byte the host places is defined from then on; every other frame byte and everything else is as before
(20_memory.md R60, R61). -/
def Obligations.PlacedFrameByteIsDefined : Prop :=
  ∀ (s : State) (rest : List HostMove) (addr : Word) (value : Byte),
    s.fault = false → s.pending = .place addr value :: rest →
    ∃ t : State, step s = .next t ∧ t.frame.read addr.toNat = some value ∧
      (∀ a, a ≠ addr.toNat → t.frame.read a = s.frame.read a) ∧ t = { s with pending := rest, frame := t.frame }

/-! ## Reset -/

/-- The values of R331 of 70_reset_and_hazards.md, and the registers' reset words of R23 of 10_state.md, reserved
bits among them. -/
def Obligations.StateAfterReset : Prop :=
  let s := State.reset
  s.proto = .artnet ∧ s.session = false ∧ s.result = .ok ∧ s.artnetStart = 0 ∧ s.e131Start = 1 ∧ s.dest = 0 ∧
    s.frameLen = 0 ∧ s.seq = 1 ∧ s.pktCount = 0 ∧ s.poolA = [] ∧ s.poolE = [] ∧ s.loopIndex = none ∧ s.fault = false ∧
    s.readValue .ctrl = 0 ∧ s.readValue .status = 0 ∧ s.readValue .artnetStart = 0 ∧ s.readValue .e131Start = 1 ∧
    s.readValue .seq = 1 ∧ ∀ a, s.frame.read a = none

/-- `RESET` between transactions calls `TransportClose` if a session is open and gives every piece of the block's
state its reset value; the parameters, the frame memory, the transport and `FAULT` are as before
(70_reset_and_hazards.md R330 to R332). -/
def Obligations.ResetMoveAppliesTheResetValues : Prop :=
  ∀ (s : State) (rest : List HostMove), s.fault = false → s.pending = .reset :: rest →
    step s = .next
      { s with
        pending := rest, proto := .artnet, session := false, result := .ok, artnetStart := 0, e131Start := 1, dest := 0,
        frameLen := 0, seq := 1, pktCount := 0, poolA := [], poolE := [], loopIndex := none,
        obs := s.obs ++ (if s.session then [.transportClose] else []) }

/-- `RESET` during a send, after `after` of its datagrams: those datagrams stay sent, no later one is, the session is
closed, and the block holds its reset values, `RESULT` among them (70_reset_and_hazards.md R331 to R333). How the
host says when it asserts `RESET` is the model's form of it (log 9). -/
def Obligations.ResetDuringSendAbandonsIt : Prop :=
  ∀ (s : State) (rest : List HostMove) (w : BitVec 41) (after base : Nat),
    s.Inv → s.pending = .busReset w after :: rest → sendBase (decodeBus w) s = some base → s.SendReady base →
    s.FrameDefined → (∀ k, k < min after s.universes → s.answerAt k = .ok) →
    ∃ t : State, step s = .next t ∧ t.obs = s.obs ++ s.frameSends base (min after s.universes) ++ [.transportClose] ∧
      t.proto = .artnet ∧ t.session = false ∧ t.result = .ok ∧ t.artnetStart = 0 ∧ t.e131Start = 1 ∧ t.dest = 0 ∧
      t.frameLen = 0 ∧ t.seq = 1 ∧ t.pktCount = 0 ∧ t.poolA = [] ∧ t.poolE = [] ∧ t.loopIndex = none ∧
      t.params = s.params ∧ t.frame = s.frame ∧ t.pending = rest

/-! ## Registers -/

/-- A register read returns the word R267 of 45_register_access.md gives and changes nothing: it is only observed.
The result codes that `STATUS` shows are those of R33 of 10_state.md, and no other is ever held. -/
def Obligations.RegisterReadReturnsItsWord : Prop :=
  ∀ (s : State) (r : Register),
    exec (.regRead r.addr) s = .next { s with obs := s.obs ++ [.busRead r.addr (s.readValue r)] } ∧
    (s.readValue .ctrl).toNat = (if s.proto = .e131 then 1 else 0) ∧
    (s.readValue .status).toNat = s.result.code.toNat * 16 + (if s.session then 1 else 0) ∧
    (s.readValue .artnetStart).toNat = s.artnetStart.toNat ∧ (s.readValue .e131Start).toNat = s.e131Start.toNat ∧
    s.readValue .dest = s.dest ∧ s.readValue .frameLen = s.frameLen ∧ (s.readValue .seq).toNat = s.seq.toNat ∧
    s.readValue .pktCount = s.pktCount ∧ s.readValue .cmd = 0 ∧
    [Register.ctrl, .status, .artnetStart, .e131Start, .dest, .frameLen, .seq, .pktCount, .cmd].map Register.addr =
      [0x00, 0x04, 0x08, 0x0C, 0x10, 0x14, 0x18, 0x1C, 0x20] ∧
    ResultCode.ok.code.toNat = 0 ∧ ResultCode.usage.code.toNat = 1 ∧ ResultCode.validation.code.toNat = 2 ∧
    ResultCode.transport.code.toNat = 3 ∧ ResultCode.range.code.toNat = 4 ∧ ResultCode.illegal.code.toNat = 5 ∧
    ∀ c : ResultCode, c.code.toNat ≤ 5

/-- A register write has the effect R268 of 45_register_access.md gives and no other, whether or not a session is
open. -/
def Obligations.RegisterWriteHasItsEffect : Prop :=
  ∀ (s : State) (d : Word),
    exec (.regWrite 0x00 d) s = .next { s with proto := if d.getLsbD 0 then .e131 else .artnet } ∧
    exec (.regWrite 0x04 d) s = .next s ∧
    exec (.regWrite 0x08 d) s = .next { s with artnetStart := BitVec.ofNat 16 (d.toNat % 65536) } ∧
    exec (.regWrite 0x0C d) s = .next { s with e131Start := BitVec.ofNat 16 (d.toNat % 65536) } ∧
    exec (.regWrite 0x10 d) s = .next { s with dest := d } ∧
    exec (.regWrite 0x14 d) s = .next { s with frameLen := d } ∧
    exec (.regWrite 0x18 d) s = .next s ∧ exec (.regWrite 0x1C d) s = .next s

/-- An access whose address is not a multiple of 4, or is above 0x20, raises `BusFault(addr)`; no other read does,
and no other write (45_register_access.md R269). -/
def Obligations.BusFaultExactlyOffTheMap : Prop :=
  ∀ (s : State) (addr : BitVec 8) (d : Word),
    (exec (.regRead addr) s = .fault (.busFault addr) ↔ addr.toNat % 4 ≠ 0 ∨ 0x20 < addr.toNat) ∧
    (exec (.regWrite addr d) s = .fault (.busFault addr) ↔ addr.toNat % 4 ≠ 0 ∨ 0x20 < addr.toNat)

/-- What a register reads after a write: the named bits written, reserved bits 0, read-only registers as before
(10_state.md R23). -/
def Obligations.WrittenRegisterReadsBackItsNamedBits : Prop :=
  ∀ (s t : State) (r : Register) (d : Word), r ≠ .cmd → exec (.regWrite r.addr d) s = .next t →
    t.readValue r =
      match r with
      | .ctrl => d &&& 0x00000001
      | .artnetStart => d &&& 0x0000FFFF
      | .e131Start => d &&& 0x0000FFFF
      | .dest => d
      | .frameLen => d
      | .status => s.readValue .status
      | .seq => s.readValue .seq
      | .pktCount => s.readValue .pktCount
      | .cmd => 0

/-! ## The session -/

/-- What `OPEN`, word 0x00000001, does: `USAGE` with a session open; else it asks the transport, and ends with
`TRANSPORT`, or with the session established and `OK`; all else is as before (44_session.md R250). Of the model's own
record of the transport's answers (log 5) it says nothing. -/
def Obligations.OpenResult : Prop :=
  decodeCmd 0x00000001 = .ok .openSession ∧
  ∀ s : State,
    if s.session then exec .openSession s = .next { s with result := .usage, loopIndex := none }
    else
      ∃ t : State, exec .openSession s = .next t ∧
        t = { s with session := (if s.answerAt 0 = .ok then true else false),
                     result := (if s.answerAt 0 = .ok then .ok else .transport), loopIndex := none,
                     obs := s.obs ++ [.transportOpen], answers := t.answers, draws := t.draws }

/-- What `CLOSE`, word 0x00000002, does: it releases an open session, and ends with `OK` on every path; all else is
as before (44_session.md R251). -/
def Obligations.CloseResult : Prop :=
  decodeCmd 0x00000002 = .ok .closeSession ∧
  ∀ s : State,
    exec .closeSession s =
      .next { s with session := false, result := .ok, loopIndex := none,
                     obs := s.obs ++ (if s.session then [.transportClose] else []) }

/-- Once a session is open it stays open until a `CLOSE` or a reset (44_session.md R252). -/
def Obligations.SessionStaysOpenUntilCloseOrReset : Prop :=
  ∀ s t : State, s.session = true → step s = .next t → t.session = false →
    ∃ rest, s.pending = .reset :: rest ∨ (∃ w n, s.pending = .busReset w n :: rest) ∨
      (∃ w, s.pending = .bus w :: rest ∧ decodeBus w = .regWrite 0x20 0x00000002)

/-! ## The send commands -/

/-- A send of an empty frame ends with `VALIDATION` and does nothing else but clear `PKT_COUNT`, with a session or
without, and an empty frame is the only cause of `VALIDATION` (43_frame_send.md R223; 60_exceptions.md R304). -/
def Obligations.EmptyFrameIsRefusedByValidation : Prop :=
  ∀ (s : State) (i : Instr) (base : Nat), SendsFrom i s base →
    (s.frameLen = 0 → exec i s = .next { s with result := .validation, pktCount := 0, loopIndex := none }) ∧
    (∀ t : State, exec i s = .next t → t.result = .validation → s.frameLen = 0)

/-- A send whose last universe exceeds 65535 ends with `RANGE` and does nothing else but clear `PKT_COUNT`, with a
session or without (43_frame_send.md R224, R230; 60_exceptions.md R304). -/
def Obligations.UniverseOverflowIsRefusedByRange : Prop :=
  ∀ (s : State) (i : Instr) (base : Nat), SendsFrom i s base → s.frameLen ≠ 0 →
    65535 < base + (s.frameLen.toNat + 511) / 512 - 1 →
    exec i s = .next { s with result := .range, pktCount := 0, loopIndex := none }

/-- A send of a frame that fits, with no session, ends with `USAGE` and does nothing else but clear `PKT_COUNT`
(43_frame_send.md R225, R230; 60_exceptions.md R304). -/
def Obligations.SendWithoutSessionIsRefusedByUsage : Prop :=
  ∀ (s : State) (i : Instr) (base : Nat), SendsFrom i s base → s.frameLen ≠ 0 →
    base + (s.frameLen.toNat + 511) / 512 - 1 ≤ 65535 → s.session = false →
    exec i s = .next { s with result := .usage, pktCount := 0, loopIndex := none }

/-- When every send returns `ok`, the command ends with `OK` and `PKT_COUNT = n`, and has handed over exactly the `n`
datagrams of the frame, universes `base` to `base + n - 1` in ascending order, byte for byte (43_frame_send.md R229,
R232). Under E1.31 `SEQ` has advanced by `n`, under Art-Net not at all. The active protocol's pool then holds, for each
of these universes, the buffer that was sent (41_artnet_encoder.md R170, R171; 42_e131_encoder.md R190, R191). -/
def Obligations.SuccessfulSendHandsOverTheWholeFrame : Prop :=
  ∀ (s : State) (i : Instr) (base : Nat), SendsFrom i s base → s.Inv → s.SendReady base → s.FrameDefined →
    (∀ k, k < s.universes → s.answerAt k = .ok) →
    ∃ t : State, exec i s = .next t ∧ t.result = .ok ∧ t.pktCount.toNat = s.universes ∧
      t.obs = s.obs ++ s.frameSends base s.universes ∧
      t.seq = (if s.proto = .e131 then s.seq + BitVec.ofNat 8 s.universes else s.seq) ∧
      ∀ i, i < s.universes → (t.poolOf s.proto).get (base + i) = some (s.frameDatagram base i).bytes

/-- When the send of universe `base + k` fails, the command ends with `TRANSPORT` and `PKT_COUNT = k`: the datagrams
up to that one have been handed over, no later one, and no packet has been built for a later universe; the failing
universe's buffer stays allocated, with the packet that was handed over, as the earlier ones' do; its sequence value is
used up if `SEQ_ADVANCE_ON_FAIL`, and the session stays (43_frame_send.md R228). -/
def Obligations.FailedSendAbandonsTheFrame : Prop :=
  ∀ (s : State) (i : Instr) (base k : Nat), SendsFrom i s base → s.Inv → s.SendReady base → s.FrameDefined →
    k < s.universes → (∀ j, j < k → s.answerAt j = .ok) → s.answerAt k = .fail →
    ∃ t : State, exec i s = .next t ∧ t.result = .transport ∧ t.pktCount.toNat = k ∧
      t.obs = s.obs ++ s.frameSends base (k + 1) ∧ t.session = true ∧
      (s.proto = .artnet → t.seq = s.seq) ∧
      (s.proto = .e131 → t.seq = s.seq + BitVec.ofNat 8 (if s.params.seqAdvanceOnFail then k + 1 else k)) ∧
      (∀ j, j ≤ k → (t.poolOf s.proto).get (base + j) = some (s.frameDatagram base j).bytes) ∧
      (∀ u, base + k < u → t.poolA.get u = s.poolA.get u ∧ t.poolE.get u = s.poolE.get u)

/-- A send whose frame has an undefined byte raises `FrameFault` at the first one, once the universes before that
byte's have been handed over (20_memory.md R61; 60_exceptions.md R302). -/
def Obligations.UndefinedFrameByteFaults : Prop :=
  ∀ (s : State) (i : Instr) (base a : Nat), SendsFrom i s base → s.Inv → s.SendReady base →
    a < s.frameLen.toNat → s.frame.read a = none → (∀ b, b < a → (s.frame.read b).isSome) →
    (∀ k, k < a / 512 → s.answerAt k = .ok) →
    exec i s = .fault (.frameFault a (s.obs ++ s.frameSends base (a / 512)))

/-- With its frame defined, a send completes whatever the transport answers and whatever the registers hold, by one of
the result codes R301 of 60_exceptions.md lists for it. -/
def Obligations.SendOfADefinedFrameCompletes : Prop :=
  ∀ (s : State) (i : Instr) (base : Nat), SendsFrom i s base → s.FrameDefined →
    ∃ t : State, exec i s = .next t ∧ t.result ≠ .illegal ∧ (t.result = .ok → t.pktCount.toNat = s.universes)

/-- The frame of the send commands: they leave the parameters, the configuration registers, the session, the frame
memory, the host's moves and `FAULT` as they were, every frame byte, and every pool buffer but those of the frame's
universes in the active protocol's pool (10_state.md R35; 20_memory.md R60). -/
def Obligations.SendLeavesTheRestUnchanged : Prop :=
  ∀ (s t : State) (i : Instr) (base : Nat), SendsFrom i s base → exec i s = .next t →
    t.params = s.params ∧ t.proto = s.proto ∧ t.artnetStart = s.artnetStart ∧ t.e131Start = s.e131Start ∧
      t.dest = s.dest ∧ t.frameLen = s.frameLen ∧ t.session = s.session ∧ t.pending = s.pending ∧ t.fault = s.fault ∧
      (∀ a, t.frame.read a = s.frame.read a) ∧
      (∀ u, u < base ∨ base + s.universes ≤ u → t.poolA.get u = s.poolA.get u ∧ t.poolE.get u = s.poolE.get u)

/-- The Art-Net encoder neither reads nor writes `SEQ` and touches no `POOL_E` buffer; the E1.31 encoder touches no
`POOL_A` buffer (41_artnet_encoder.md R174; 10_state.md R35). -/
def Obligations.ProtocolsShareNoState : Prop :=
  ∀ (s t : State) (i : Instr) (base : Nat), SendsFrom i s base → exec i s = .next t →
    (s.proto = .artnet → t.seq = s.seq ∧ t.poolE = s.poolE) ∧ (s.proto = .e131 → t.poolA = s.poolA)

/-! ## Errors -/

/-- `USAGE`, `VALIDATION` and `RANGE` are precise: but for the result, `PKT_COUNT <- 0` of a send, and the loop index,
which no command is running to use, nothing changes. A failed `OPEN` changes only the result, beside the call to the
transport and its answer (60_exceptions.md R305). -/
def Obligations.ErrorsArePrecise : Prop :=
  ∀ (s t : State) (i : Instr), IsCommand i → exec i s = .next t →
    (t.result = .usage ∨ t.result = .validation ∨ t.result = .range →
      t = { s with result := t.result, loopIndex := none,
                   pktCount := if i = .openSession ∨ i = .closeSession then s.pktCount else 0 }) ∧
    (i = .openSession → t.result = .transport →
      t = { s with result := .transport, loopIndex := none, obs := s.obs ++ [.transportOpen],
                   answers := s.answers.tail, draws := s.draws + 1 })

/-- Which result codes each command can end with, and what each code's cause is: `USAGE` comes of a send without a
session or an `OPEN` with one, `VALIDATION` of an empty frame, `RANGE` of a last universe above 65535, `TRANSPORT` of an
answer `fail` (with `PKT_COUNT = k` when the send of universe `base + k` got it), and `OK` of a command that completed:
every check passed and every answer was `ok`, `PKT_COUNT` being the number of universes (60_exceptions.md R301). -/
def Obligations.ResultCodesHaveTheirCauses : Prop :=
  ∀ (s t : State) (i : Instr), IsCommand i → exec i s = .next t →
    t.result ≠ .illegal ∧ (i = .closeSession → t.result = .ok) ∧
    (i = .openSession → t.result = .ok ∨ t.result = .usage ∨ t.result = .transport) ∧
    (t.result = .usage → (i = .openSession ∧ s.session = true) ∨ (i ≠ .openSession ∧ s.session = false)) ∧
    (t.result = .validation → s.frameLen = 0) ∧
    (∀ base, SendsFrom i s base → t.result = .range → 65535 < base + s.universes - 1) ∧
    (t.result = .transport → s.session = false ∧ i = .openSession ∨ s.session = true ∧ i ≠ .openSession) ∧
    (i = .openSession →
      (t.result = .ok → s.session = false ∧ s.answerAt 0 = .ok) ∧ (t.result = .transport → s.answerAt 0 = .fail)) ∧
    (∀ base, SendsFrom i s base →
      (t.result = .ok →
        s.SendReady base ∧ (∀ k, k < s.universes → s.answerAt k = .ok) ∧ t.pktCount.toNat = s.universes) ∧
      (t.result = .transport →
        ∃ k, k < s.universes ∧ (∀ j, j < k → s.answerAt j = .ok) ∧ s.answerAt k = .fail ∧ t.pktCount.toNat = k))

/-! ## Rules of the whole machine -/

/-- The invariant holds at reset. -/
def Obligations.InvariantHoldsAtReset : Prop := State.reset.Inv

/-- Every step keeps the invariant: the pools are canonical maps whose buffers are as R36 of 10_state.md says, the
frame memory is canonical, `PKT_COUNT` stays within its range, no loop index outlives its command. -/
def Obligations.EveryStepKeepsTheInvariant : Prop :=
  ∀ s t : State, s.Inv → step s = .next t → t.Inv

/-- No step changes the parameters (00_scope.md R6). -/
def Obligations.ParametersNeverChange : Prop :=
  ∀ s t : State, step s = .next t → t.params = s.params

/-- The block never writes the frame memory (20_memory.md R60), and no instruction takes a move from the host. -/
def Obligations.BlockNeverWritesTheFrame : Prop :=
  ∀ (s t : State) (i : Instr), exec i s = .next t → (∀ a, t.frame.read a = s.frame.read a) ∧ t.pending = s.pending

/-- No command and no register access removes a pool entry (10_state.md R35); only reset empties the pools. -/
def Obligations.PoolEntriesAreNeverRemoved : Prop :=
  ∀ (s t : State) (i : Instr) (u : Nat), exec i s = .next t →
    ((s.poolA.get u).isSome → (t.poolA.get u).isSome) ∧ ((s.poolE.get u).isSome → (t.poolE.get u).isSome)

/-- `PKT_COUNT` is changed by no instruction but a send, issued by itself or through `CMD` (10_state.md R31). -/
def Obligations.OnlySendsChangePacketCount : Prop :=
  ∀ (s t : State) (i : Instr), sendBase i s = none → exec i s = .next t → t.pktCount = s.pktCount

/-- What has been observed stays observed: every step only appends (00_scope.md R9; 60_exceptions.md R302;
70_reset_and_hazards.md R333). -/
def Obligations.ObservationOnlyGrows : Prop :=
  ∀ s t : State, step s = .next t → ∃ new, t.obs = s.obs ++ new

/-- Every datagram a step hands over goes to `DEST`, and its port and its length are those of the active protocol
(30_encoding.md R96; 10_state.md R28). -/
def Obligations.EveryDatagramHasItsProtocolsForm : Prop :=
  ∀ (s t : State) (new : List Event) (d : Datagram), s.Inv → step s = .next t → t.obs = s.obs ++ new →
    .transportSend d ∈ new →
    d.dest = s.dest ∧ d.port = (if s.proto = .artnet then 6454 else 5568) ∧
      d.bytes.length = (if s.proto = .artnet then 530 else 638)

/-- The sequence law over any run without a reset: with `SEQ_ADVANCE_ON_FAIL`, `SEQ` advances by one for every E1.31
packet handed over, whatever the transport answers, across frames, sessions and protocol changes, and the j-th of
these packets carries the j-th value from `SEQ` on, modulo 256. From reset, where `SEQ` is 1, packet `k` so carries
`k mod 256` (42_e131_encoder.md R194). -/
def Obligations.SequenceLaw : Prop :=
  ∀ (k : Nat) (s t : State), s.Inv → s.params.seqAdvanceOnFail = true →
    (∀ m ∈ s.pending, (∃ w, m = .bus w) ∨ ∃ a v, m = .place a v) → stepMany k s = .next t →
    ∃ new : List Event, t.obs = s.obs ++ new ∧ t.seq = s.seq + BitVec.ofNat 8 (e131Sends new) ∧
      e131SequencesOf new = (List.range (e131Sends new)).map fun j => s.seq + BitVec.ofNat 8 j

/-! ## The wire and the chunker -/

/-- Reading back the header of an ArtDMX packet (30_encoding.md R134). -/
def Obligations.ArtnetHeaderReadsBack : Prop :=
  ∀ (p : Params) (u : Nat) (rest : Bytes), u ≤ 65535 →
    artnetOpcode (artnetHeader p u ++ rest) = 0x5000 ∧ artnetVersion (artnetHeader p u ++ rest) = 14 ∧
      artnetUniverse (artnetHeader p u ++ rest) = u

/-- Reading back the header of an E1.31 packet (30_encoding.md R135). -/
def Obligations.E131HeaderReadsBack : Prop :=
  ∀ (p : Params) (u : Nat) (s : Byte) (rest : Bytes), u ≤ 65535 →
    let d := e131Header p u s ++ rest
    e131Universe d = u ∧ e131Sequence d = s.toNat ∧ (d.drop 18).take 4 = [0x00, 0x00, 0x00, 0x04] ∧
      (d.drop 40).take 4 = [0x00, 0x00, 0x00, 0x02] ∧ d.getD 117 0 = 0x02 ∧ d.getD 118 0 = 0xA1 ∧ d.getD 125 0 = 0x01

/-- The whole ArtDMX header, byte by byte (30_encoding.md R100 to R107). -/
def Obligations.ArtnetHeaderBytes : Prop :=
  ∀ (p : Params) (u : Nat), u ≤ 65535 →
    artnetHeader p u =
      p.artnetName.toList ++
        [0x00, 0x00, 0x50, 0x00, 0x0E, 0x00, 0x00, BitVec.ofNat 8 (u % 256), BitVec.ofNat 8 (u / 256), 0x02, 0x00]

/-- The whole E1.31 header, byte by byte, for every flag nibble and every legal source name (30_encoding.md R110 to
R132): the three flags/length fields are the nibble over the 12-bit lengths 0x26E, 0x258 and 0x20B (R111). Values the
source does not list are the spec's own, from general knowledge (log 20). -/
def Obligations.E131HeaderBytes : Prop :=
  ∀ (p : Params) (u : Nat) (s : Byte), u ≤ 65535 → paramsWf p →
    let high := BitVec.ofNat 8 (p.flagNibble.toNat * 16 + 2)
    e131Header p u s =
      p.rootPrefix.toList ++ [high, 0x6E, 0x00, 0x00, 0x00, 0x04] ++ p.cid.toList ++
        [high, 0x58, 0x00, 0x00, 0x00, 0x02] ++ p.sourceName ++ zeros (64 - p.sourceName.length) ++
        [0x00, 0x00, 0x00, s, 0x00, BitVec.ofNat 8 (u / 256), BitVec.ofNat 8 (u % 256), high, 0x0B, 0x02, 0xA1, 0x00,
          0x00, 0x00, 0x01, 0x02, 0x01, 0x01]

/-- There are `ceil(len / 512)` chunks, and they cover the frame exactly once, in ascending order: frame byte `a` is in chunk `a / 512` and in no
other, and every chunk has 1 to 512 bytes (40_chunker.md R150, R151, R153). -/
def Obligations.ChunksCoverTheFrameOnce : Prop :=
  ∀ len : Nat,
    chunkCount len = (len + 511) / 512 ∧
    (∀ i, i < chunkCount len → chunkStart i = 512 * i ∧ 1 ≤ chunkLength len i ∧ chunkLength len i ≤ 512) ∧
    (∀ a i, a < len →
      (i < chunkCount len ∧ chunkStart i ≤ a ∧ a < chunkStart i + chunkLength len i ↔ i = a / 512)) ∧
    (∀ i, i + 1 < chunkCount len → chunkLength len i = 512) ∧
    (0 < len → chunkLength len (chunkCount len - 1) = (len - 1) % 512 + 1)
end

