-- ==== Sys2Proof/Laws/Cells.lean ====
section
/-! SUPPORT. The laws of keyed cells: read after write, the canonical form, and reading a run of frame bytes. -/

namespace Sys2Proof.Machine

variable {α : Type}

@[simp] theorem readCell_writeCell_same (m : List (Nat × α)) (a : Nat) (v : α) :
    readCell (writeCell m a v) a = some v := by
  induction m with
  | nil => simp [writeCell, readCell]
  | cons c m ih =>
    obtain ⟨k, w⟩ := c
    simp only [writeCell]
    split
    · simp [readCell]
    · split <;> simp_all [readCell]

theorem readCell_writeCell_other (m : List (Nat × α)) {a b : Nat} (v : α) (h : b ≠ a) :
    readCell (writeCell m a v) b = readCell m b := by
  induction m with
  | nil => simp [writeCell, readCell, h]
  | cons c m ih =>
    obtain ⟨k, w⟩ := c
    simp only [writeCell]
    split
    · simp [readCell, h]
    · split <;> simp_all [readCell]

theorem mem_of_mem_writeCell {m : List (Nat × α)} {a : Nat} {v : α} {c : Nat × α} (h : c ∈ writeCell m a v) :
    c = (a, v) ∨ c ∈ m := by
  induction m with
  | nil => simpa [writeCell] using h
  | cons d m ih =>
    obtain ⟨k, w⟩ := d
    simp only [writeCell] at h
    split at h
    · simpa using h
    · split at h
      · rcases List.mem_cons.1 h with h | h
        · exact .inl h
        · exact .inr (List.mem_cons_of_mem _ h)
      · rcases List.mem_cons.1 h with h | h
        · exact .inr (h ▸ List.mem_cons_self)
        · exact (ih h).imp_right (List.mem_cons_of_mem _)

theorem writeCell_sorted {m : List (Nat × α)} (a : Nat) (v : α) (h : CellsSorted m) :
    CellsSorted (writeCell m a v) := by
  induction m with
  | nil => simp [writeCell, CellsSorted]
  | cons c m ih =>
    obtain ⟨k, w⟩ := c
    simp only [CellsSorted, List.map_cons, List.pairwise_cons] at h
    obtain ⟨hk, hm⟩ := h
    simp only [writeCell]
    split
    · rename_i hak
      simp only [CellsSorted, List.map_cons, List.pairwise_cons, List.mem_cons]
      refine ⟨?_, hk, hm⟩
      rintro x (rfl | hx)
      · exact hak
      · exact Nat.lt_trans hak (hk x hx)
    · split
      · rename_i heq
        subst heq
        exact List.pairwise_cons.2 ⟨hk, hm⟩
      · rename_i hlt hne
        refine List.pairwise_cons.2 ⟨?_, ih hm⟩
        intro x hx
        obtain ⟨c, hc, rfl⟩ := List.mem_map.1 hx
        rcases mem_of_mem_writeCell hc with rfl | hc
        · exact Nat.lt_of_le_of_ne (Nat.le_of_not_lt hlt) (Ne.symm hne)
        · exact hk _ (List.mem_map_of_mem hc)

/-- A value that is read is listed. -/
theorem mem_of_readCell {m : List (Nat × α)} {a : Nat} {v : α} (h : readCell m a = some v) : (a, v) ∈ m := by
  induction m with
  | nil => simp [readCell] at h
  | cons c m ih =>
    obtain ⟨k, w⟩ := c
    simp only [readCell] at h
    split at h
    · simp_all
    · exact List.mem_cons_of_mem _ (ih h)

/-- In the canonical form a listed cell is the one that reading its key gives. -/
theorem readCell_of_mem {m : List (Nat × α)} {a : Nat} {v : α} (hs : CellsSorted m) (h : (a, v) ∈ m) :
    readCell m a = some v := by
  induction m with
  | nil => cases h
  | cons c rest ih =>
    obtain ⟨hlt, hrest⟩ := List.pairwise_cons.1 hs
    rcases List.mem_cons.1 h with rfl | h
    · simp [readCell]
    · have : c.1 < a := hlt _ (List.mem_map_of_mem (f := Prod.fst) h)
      simp only [readCell, if_neg (Nat.ne_of_gt this)]
      exact ih hrest h

/-- A host's write keeps the frame memory canonical. -/
theorem Memory.write_wf {m : Memory} (a : Word) (v : Byte) (h : m.wf) : (m.write a v).wf :=
  ⟨writeCell_sorted _ _ h.1, fun c hc => by
    rcases mem_of_mem_writeCell hc with rfl | hc
    · exact a.isLt
    · exact h.2 c hc⟩

theorem Memory.read_write_same (m : Memory) (a : Word) (v : Byte) : (m.write a v).read a.toNat = some v :=
  readCell_writeCell_same _ _ _

theorem Memory.read_write_other (m : Memory) {a : Word} {b : Nat} (v : Byte) (h : b ≠ a.toNat) :
    (m.write a v).read b = m.read b :=
  readCell_writeCell_other _ _ h

theorem Pool.get_put_same (p : Pool) (u : Nat) (buf : Bytes) : (p.put u buf).get u = some buf :=
  readCell_writeCell_same _ _ _

theorem Pool.get_put_other (p : Pool) {u v : Nat} (buf : Bytes) (h : v ≠ u) : (p.put u buf).get v = p.get v :=
  readCell_writeCell_other _ _ h

/-- Where every byte of a run is defined, reading it gives the bytes. -/
theorem Memory.readRun_ok (m : Memory) (n : Nat) : ∀ start, (∀ j, j < n → (m.read (start + j)).isSome) →
    m.readRun start n = .ok ((List.range n).map fun j => (m.read (start + j)).getD 0) := by
  induction n with
  | zero => intro start _; rfl
  | succ n ih =>
    intro start h
    obtain ⟨b, hb⟩ := Option.isSome_iff_exists.1 (h 0 (Nat.succ_pos n))
    have hrest : ∀ j, j < n → (m.read (start + 1 + j)).isSome := fun j hj => by
      have := h (j + 1) (Nat.succ_lt_succ hj)
      rwa [show start + 1 + j = start + (j + 1) by omega]
    rw [Nat.add_zero] at hb
    simp only [Memory.readRun, hb, ih (start + 1) hrest, List.range_succ_eq_map, List.map_cons, List.map_map,
      Nat.add_zero, Option.getD_some]
    congr 2
    apply List.map_congr_left
    intro j _
    simp only [Function.comp_apply]
    rw [show start + 1 + j = start + (j + 1) by omega]

/-- Where a byte of a run is undefined, reading it stops at the first one. -/
theorem Memory.readRun_error (m : Memory) (n : Nat) : ∀ start k, k < n → m.read (start + k) = none →
    (∀ j, j < k → (m.read (start + j)).isSome) → m.readRun start n = .error (start + k) := by
  induction n with
  | zero => intro _ _ h; omega
  | succ n ih =>
    intro start k hk hnone hsome
    cases k with
    | zero => simp only [Memory.readRun, Nat.add_zero] at hnone ⊢; rw [hnone]
    | succ k =>
      obtain ⟨b, hb⟩ := Option.isSome_iff_exists.1 (hsome 0 (Nat.succ_pos k))
      rw [Nat.add_zero] at hb
      have := ih (start + 1) k (by omega) (by rw [← hnone]; congr 1; omega) (fun j hj => by
        have := hsome (j + 1) (by omega)
        rwa [show start + 1 + j = start + (j + 1) by omega])
      simp only [Memory.readRun, hb, this]
      congr 1; omega

/-- A run that is read has the length asked for. -/
theorem Memory.readRun_length (m : Memory) (n : Nat) : ∀ start bs, m.readRun start n = .ok bs → bs.length = n := by
  induction n with
  | zero => intro _ bs h; simp [Memory.readRun] at h; simp [← h]
  | succ n ih =>
    intro start bs h
    simp only [Memory.readRun] at h
    split at h
    · cases h
    · split at h
      · cases h
      · rename_i bs' hbs
        cases h
        simp [ih _ _ hbs]

end Sys2Proof.Machine
end

