-- ==== Sys2Proof/Laws/PerInstr.lean ====
section
/-! SUPPORT. Statements about every instruction as syntax, one lemma per constructor. -/

namespace Sys2Proof

/-- The check of well-formedness says what `Instr.WellFormed` says. -/
theorem Instr.wellFormed_iff (i : Instr) : i.wellFormed = true ↔ i.WellFormed := by
  cases i <;> simp [Instr.wellFormed, Instr.WellFormed]

namespace Laws

/-- The word of a well-formed instruction fits the bytes it is laid out in. -/
def WordFits.Statement (i : Instr) : Prop := i.WellFormed → i.word < 256 ^ i.wordBytes

theorem WordFits.openSession : WordFits.Statement .openSession := fun _ => by decide

theorem WordFits.closeSession : WordFits.Statement .closeSession := fun _ => by decide

theorem WordFits.sendFrame : WordFits.Statement .sendFrame := fun _ => by decide

theorem WordFits.encodeSend (base : Nat) : WordFits.Statement (.encodeSend base) := fun h => by
  have : base ≤ 65535 := h
  simp only [Instr.word, Instr.wordBytes]
  omega

theorem WordFits.regRead (addr : BitVec 8) : WordFits.Statement (.regRead addr) := fun _ => by
  have := addr.isLt
  simp only [Instr.word, Instr.wordBytes]
  omega

theorem WordFits.regWrite (addr : BitVec 8) (data : Word) : WordFits.Statement (.regWrite addr data) := fun _ => by
  have := addr.isLt
  have := data.isLt
  simp only [Instr.word, Instr.wordBytes]
  omega

end Laws

end Sys2Proof
end

