-- ==== Sys2Proof/Laws/State.lean ====
section
/-! SUPPORT. What each update of the state leaves in each field: one lemma per field per update. -/

namespace Sys2Proof.Machine

@[simp] theorem State.setProto_params (s : State) (v : Protocol) : (s.setProto v).params = s.params := rfl
@[simp] theorem State.setProto_proto (s : State) (v : Protocol) : (s.setProto v).proto = v := rfl
@[simp] theorem State.setProto_session (s : State) (v : Protocol) : (s.setProto v).session = s.session := rfl
@[simp] theorem State.setProto_result (s : State) (v : Protocol) : (s.setProto v).result = s.result := rfl
@[simp] theorem State.setProto_artnetStart (s : State) (v : Protocol) : (s.setProto v).artnetStart = s.artnetStart := rfl
@[simp] theorem State.setProto_e131Start (s : State) (v : Protocol) : (s.setProto v).e131Start = s.e131Start := rfl
@[simp] theorem State.setProto_dest (s : State) (v : Protocol) : (s.setProto v).dest = s.dest := rfl
@[simp] theorem State.setProto_frameLen (s : State) (v : Protocol) : (s.setProto v).frameLen = s.frameLen := rfl
@[simp] theorem State.setProto_seq (s : State) (v : Protocol) : (s.setProto v).seq = s.seq := rfl
@[simp] theorem State.setProto_pktCount (s : State) (v : Protocol) : (s.setProto v).pktCount = s.pktCount := rfl
@[simp] theorem State.setProto_poolA (s : State) (v : Protocol) : (s.setProto v).poolA = s.poolA := rfl
@[simp] theorem State.setProto_poolE (s : State) (v : Protocol) : (s.setProto v).poolE = s.poolE := rfl
@[simp] theorem State.setProto_loopIndex (s : State) (v : Protocol) : (s.setProto v).loopIndex = s.loopIndex := rfl
@[simp] theorem State.setProto_fault (s : State) (v : Protocol) : (s.setProto v).fault = s.fault := rfl
@[simp] theorem State.setProto_frame (s : State) (v : Protocol) : (s.setProto v).frame = s.frame := rfl
@[simp] theorem State.setProto_pending (s : State) (v : Protocol) : (s.setProto v).pending = s.pending := rfl
@[simp] theorem State.setProto_answers (s : State) (v : Protocol) : (s.setProto v).answers = s.answers := rfl
@[simp] theorem State.setProto_draws (s : State) (v : Protocol) : (s.setProto v).draws = s.draws := rfl
@[simp] theorem State.setProto_obs (s : State) (v : Protocol) : (s.setProto v).obs = s.obs := rfl

@[simp] theorem State.setSession_params (s : State) (v : Bool) : (s.setSession v).params = s.params := rfl
@[simp] theorem State.setSession_proto (s : State) (v : Bool) : (s.setSession v).proto = s.proto := rfl
@[simp] theorem State.setSession_session (s : State) (v : Bool) : (s.setSession v).session = v := rfl
@[simp] theorem State.setSession_result (s : State) (v : Bool) : (s.setSession v).result = s.result := rfl
@[simp] theorem State.setSession_artnetStart (s : State) (v : Bool) : (s.setSession v).artnetStart = s.artnetStart := rfl
@[simp] theorem State.setSession_e131Start (s : State) (v : Bool) : (s.setSession v).e131Start = s.e131Start := rfl
@[simp] theorem State.setSession_dest (s : State) (v : Bool) : (s.setSession v).dest = s.dest := rfl
@[simp] theorem State.setSession_frameLen (s : State) (v : Bool) : (s.setSession v).frameLen = s.frameLen := rfl
@[simp] theorem State.setSession_seq (s : State) (v : Bool) : (s.setSession v).seq = s.seq := rfl
@[simp] theorem State.setSession_pktCount (s : State) (v : Bool) : (s.setSession v).pktCount = s.pktCount := rfl
@[simp] theorem State.setSession_poolA (s : State) (v : Bool) : (s.setSession v).poolA = s.poolA := rfl
@[simp] theorem State.setSession_poolE (s : State) (v : Bool) : (s.setSession v).poolE = s.poolE := rfl
@[simp] theorem State.setSession_loopIndex (s : State) (v : Bool) : (s.setSession v).loopIndex = s.loopIndex := rfl
@[simp] theorem State.setSession_fault (s : State) (v : Bool) : (s.setSession v).fault = s.fault := rfl
@[simp] theorem State.setSession_frame (s : State) (v : Bool) : (s.setSession v).frame = s.frame := rfl
@[simp] theorem State.setSession_pending (s : State) (v : Bool) : (s.setSession v).pending = s.pending := rfl
@[simp] theorem State.setSession_answers (s : State) (v : Bool) : (s.setSession v).answers = s.answers := rfl
@[simp] theorem State.setSession_draws (s : State) (v : Bool) : (s.setSession v).draws = s.draws := rfl
@[simp] theorem State.setSession_obs (s : State) (v : Bool) : (s.setSession v).obs = s.obs := rfl

@[simp] theorem State.setResult_params (s : State) (v : ResultCode) : (s.setResult v).params = s.params := rfl
@[simp] theorem State.setResult_proto (s : State) (v : ResultCode) : (s.setResult v).proto = s.proto := rfl
@[simp] theorem State.setResult_session (s : State) (v : ResultCode) : (s.setResult v).session = s.session := rfl
@[simp] theorem State.setResult_result (s : State) (v : ResultCode) : (s.setResult v).result = v := rfl
@[simp] theorem State.setResult_artnetStart (s : State) (v : ResultCode) : (s.setResult v).artnetStart = s.artnetStart := rfl
@[simp] theorem State.setResult_e131Start (s : State) (v : ResultCode) : (s.setResult v).e131Start = s.e131Start := rfl
@[simp] theorem State.setResult_dest (s : State) (v : ResultCode) : (s.setResult v).dest = s.dest := rfl
@[simp] theorem State.setResult_frameLen (s : State) (v : ResultCode) : (s.setResult v).frameLen = s.frameLen := rfl
@[simp] theorem State.setResult_seq (s : State) (v : ResultCode) : (s.setResult v).seq = s.seq := rfl
@[simp] theorem State.setResult_pktCount (s : State) (v : ResultCode) : (s.setResult v).pktCount = s.pktCount := rfl
@[simp] theorem State.setResult_poolA (s : State) (v : ResultCode) : (s.setResult v).poolA = s.poolA := rfl
@[simp] theorem State.setResult_poolE (s : State) (v : ResultCode) : (s.setResult v).poolE = s.poolE := rfl
@[simp] theorem State.setResult_loopIndex (s : State) (v : ResultCode) : (s.setResult v).loopIndex = s.loopIndex := rfl
@[simp] theorem State.setResult_fault (s : State) (v : ResultCode) : (s.setResult v).fault = s.fault := rfl
@[simp] theorem State.setResult_frame (s : State) (v : ResultCode) : (s.setResult v).frame = s.frame := rfl
@[simp] theorem State.setResult_pending (s : State) (v : ResultCode) : (s.setResult v).pending = s.pending := rfl
@[simp] theorem State.setResult_answers (s : State) (v : ResultCode) : (s.setResult v).answers = s.answers := rfl
@[simp] theorem State.setResult_draws (s : State) (v : ResultCode) : (s.setResult v).draws = s.draws := rfl
@[simp] theorem State.setResult_obs (s : State) (v : ResultCode) : (s.setResult v).obs = s.obs := rfl

@[simp] theorem State.setArtnetStart_params (s : State) (v : BitVec 16) : (s.setArtnetStart v).params = s.params := rfl
@[simp] theorem State.setArtnetStart_proto (s : State) (v : BitVec 16) : (s.setArtnetStart v).proto = s.proto := rfl
@[simp] theorem State.setArtnetStart_session (s : State) (v : BitVec 16) : (s.setArtnetStart v).session = s.session := rfl
@[simp] theorem State.setArtnetStart_result (s : State) (v : BitVec 16) : (s.setArtnetStart v).result = s.result := rfl
@[simp] theorem State.setArtnetStart_artnetStart (s : State) (v : BitVec 16) : (s.setArtnetStart v).artnetStart = v := rfl
@[simp] theorem State.setArtnetStart_e131Start (s : State) (v : BitVec 16) : (s.setArtnetStart v).e131Start = s.e131Start := rfl
@[simp] theorem State.setArtnetStart_dest (s : State) (v : BitVec 16) : (s.setArtnetStart v).dest = s.dest := rfl
@[simp] theorem State.setArtnetStart_frameLen (s : State) (v : BitVec 16) : (s.setArtnetStart v).frameLen = s.frameLen := rfl
@[simp] theorem State.setArtnetStart_seq (s : State) (v : BitVec 16) : (s.setArtnetStart v).seq = s.seq := rfl
@[simp] theorem State.setArtnetStart_pktCount (s : State) (v : BitVec 16) : (s.setArtnetStart v).pktCount = s.pktCount := rfl
@[simp] theorem State.setArtnetStart_poolA (s : State) (v : BitVec 16) : (s.setArtnetStart v).poolA = s.poolA := rfl
@[simp] theorem State.setArtnetStart_poolE (s : State) (v : BitVec 16) : (s.setArtnetStart v).poolE = s.poolE := rfl
@[simp] theorem State.setArtnetStart_loopIndex (s : State) (v : BitVec 16) : (s.setArtnetStart v).loopIndex = s.loopIndex := rfl
@[simp] theorem State.setArtnetStart_fault (s : State) (v : BitVec 16) : (s.setArtnetStart v).fault = s.fault := rfl
@[simp] theorem State.setArtnetStart_frame (s : State) (v : BitVec 16) : (s.setArtnetStart v).frame = s.frame := rfl
@[simp] theorem State.setArtnetStart_pending (s : State) (v : BitVec 16) : (s.setArtnetStart v).pending = s.pending := rfl
@[simp] theorem State.setArtnetStart_answers (s : State) (v : BitVec 16) : (s.setArtnetStart v).answers = s.answers := rfl
@[simp] theorem State.setArtnetStart_draws (s : State) (v : BitVec 16) : (s.setArtnetStart v).draws = s.draws := rfl
@[simp] theorem State.setArtnetStart_obs (s : State) (v : BitVec 16) : (s.setArtnetStart v).obs = s.obs := rfl

@[simp] theorem State.setE131Start_params (s : State) (v : BitVec 16) : (s.setE131Start v).params = s.params := rfl
@[simp] theorem State.setE131Start_proto (s : State) (v : BitVec 16) : (s.setE131Start v).proto = s.proto := rfl
@[simp] theorem State.setE131Start_session (s : State) (v : BitVec 16) : (s.setE131Start v).session = s.session := rfl
@[simp] theorem State.setE131Start_result (s : State) (v : BitVec 16) : (s.setE131Start v).result = s.result := rfl
@[simp] theorem State.setE131Start_artnetStart (s : State) (v : BitVec 16) : (s.setE131Start v).artnetStart = s.artnetStart := rfl
@[simp] theorem State.setE131Start_e131Start (s : State) (v : BitVec 16) : (s.setE131Start v).e131Start = v := rfl
@[simp] theorem State.setE131Start_dest (s : State) (v : BitVec 16) : (s.setE131Start v).dest = s.dest := rfl
@[simp] theorem State.setE131Start_frameLen (s : State) (v : BitVec 16) : (s.setE131Start v).frameLen = s.frameLen := rfl
@[simp] theorem State.setE131Start_seq (s : State) (v : BitVec 16) : (s.setE131Start v).seq = s.seq := rfl
@[simp] theorem State.setE131Start_pktCount (s : State) (v : BitVec 16) : (s.setE131Start v).pktCount = s.pktCount := rfl
@[simp] theorem State.setE131Start_poolA (s : State) (v : BitVec 16) : (s.setE131Start v).poolA = s.poolA := rfl
@[simp] theorem State.setE131Start_poolE (s : State) (v : BitVec 16) : (s.setE131Start v).poolE = s.poolE := rfl
@[simp] theorem State.setE131Start_loopIndex (s : State) (v : BitVec 16) : (s.setE131Start v).loopIndex = s.loopIndex := rfl
@[simp] theorem State.setE131Start_fault (s : State) (v : BitVec 16) : (s.setE131Start v).fault = s.fault := rfl
@[simp] theorem State.setE131Start_frame (s : State) (v : BitVec 16) : (s.setE131Start v).frame = s.frame := rfl
@[simp] theorem State.setE131Start_pending (s : State) (v : BitVec 16) : (s.setE131Start v).pending = s.pending := rfl
@[simp] theorem State.setE131Start_answers (s : State) (v : BitVec 16) : (s.setE131Start v).answers = s.answers := rfl
@[simp] theorem State.setE131Start_draws (s : State) (v : BitVec 16) : (s.setE131Start v).draws = s.draws := rfl
@[simp] theorem State.setE131Start_obs (s : State) (v : BitVec 16) : (s.setE131Start v).obs = s.obs := rfl

@[simp] theorem State.setDest_params (s : State) (v : Word) : (s.setDest v).params = s.params := rfl
@[simp] theorem State.setDest_proto (s : State) (v : Word) : (s.setDest v).proto = s.proto := rfl
@[simp] theorem State.setDest_session (s : State) (v : Word) : (s.setDest v).session = s.session := rfl
@[simp] theorem State.setDest_result (s : State) (v : Word) : (s.setDest v).result = s.result := rfl
@[simp] theorem State.setDest_artnetStart (s : State) (v : Word) : (s.setDest v).artnetStart = s.artnetStart := rfl
@[simp] theorem State.setDest_e131Start (s : State) (v : Word) : (s.setDest v).e131Start = s.e131Start := rfl
@[simp] theorem State.setDest_dest (s : State) (v : Word) : (s.setDest v).dest = v := rfl
@[simp] theorem State.setDest_frameLen (s : State) (v : Word) : (s.setDest v).frameLen = s.frameLen := rfl
@[simp] theorem State.setDest_seq (s : State) (v : Word) : (s.setDest v).seq = s.seq := rfl
@[simp] theorem State.setDest_pktCount (s : State) (v : Word) : (s.setDest v).pktCount = s.pktCount := rfl
@[simp] theorem State.setDest_poolA (s : State) (v : Word) : (s.setDest v).poolA = s.poolA := rfl
@[simp] theorem State.setDest_poolE (s : State) (v : Word) : (s.setDest v).poolE = s.poolE := rfl
@[simp] theorem State.setDest_loopIndex (s : State) (v : Word) : (s.setDest v).loopIndex = s.loopIndex := rfl
@[simp] theorem State.setDest_fault (s : State) (v : Word) : (s.setDest v).fault = s.fault := rfl
@[simp] theorem State.setDest_frame (s : State) (v : Word) : (s.setDest v).frame = s.frame := rfl
@[simp] theorem State.setDest_pending (s : State) (v : Word) : (s.setDest v).pending = s.pending := rfl
@[simp] theorem State.setDest_answers (s : State) (v : Word) : (s.setDest v).answers = s.answers := rfl
@[simp] theorem State.setDest_draws (s : State) (v : Word) : (s.setDest v).draws = s.draws := rfl
@[simp] theorem State.setDest_obs (s : State) (v : Word) : (s.setDest v).obs = s.obs := rfl

@[simp] theorem State.setFrameLen_params (s : State) (v : Word) : (s.setFrameLen v).params = s.params := rfl
@[simp] theorem State.setFrameLen_proto (s : State) (v : Word) : (s.setFrameLen v).proto = s.proto := rfl
@[simp] theorem State.setFrameLen_session (s : State) (v : Word) : (s.setFrameLen v).session = s.session := rfl
@[simp] theorem State.setFrameLen_result (s : State) (v : Word) : (s.setFrameLen v).result = s.result := rfl
@[simp] theorem State.setFrameLen_artnetStart (s : State) (v : Word) : (s.setFrameLen v).artnetStart = s.artnetStart := rfl
@[simp] theorem State.setFrameLen_e131Start (s : State) (v : Word) : (s.setFrameLen v).e131Start = s.e131Start := rfl
@[simp] theorem State.setFrameLen_dest (s : State) (v : Word) : (s.setFrameLen v).dest = s.dest := rfl
@[simp] theorem State.setFrameLen_frameLen (s : State) (v : Word) : (s.setFrameLen v).frameLen = v := rfl
@[simp] theorem State.setFrameLen_seq (s : State) (v : Word) : (s.setFrameLen v).seq = s.seq := rfl
@[simp] theorem State.setFrameLen_pktCount (s : State) (v : Word) : (s.setFrameLen v).pktCount = s.pktCount := rfl
@[simp] theorem State.setFrameLen_poolA (s : State) (v : Word) : (s.setFrameLen v).poolA = s.poolA := rfl
@[simp] theorem State.setFrameLen_poolE (s : State) (v : Word) : (s.setFrameLen v).poolE = s.poolE := rfl
@[simp] theorem State.setFrameLen_loopIndex (s : State) (v : Word) : (s.setFrameLen v).loopIndex = s.loopIndex := rfl
@[simp] theorem State.setFrameLen_fault (s : State) (v : Word) : (s.setFrameLen v).fault = s.fault := rfl
@[simp] theorem State.setFrameLen_frame (s : State) (v : Word) : (s.setFrameLen v).frame = s.frame := rfl
@[simp] theorem State.setFrameLen_pending (s : State) (v : Word) : (s.setFrameLen v).pending = s.pending := rfl
@[simp] theorem State.setFrameLen_answers (s : State) (v : Word) : (s.setFrameLen v).answers = s.answers := rfl
@[simp] theorem State.setFrameLen_draws (s : State) (v : Word) : (s.setFrameLen v).draws = s.draws := rfl
@[simp] theorem State.setFrameLen_obs (s : State) (v : Word) : (s.setFrameLen v).obs = s.obs := rfl

@[simp] theorem State.setSeq_params (s : State) (v : Byte) : (s.setSeq v).params = s.params := rfl
@[simp] theorem State.setSeq_proto (s : State) (v : Byte) : (s.setSeq v).proto = s.proto := rfl
@[simp] theorem State.setSeq_session (s : State) (v : Byte) : (s.setSeq v).session = s.session := rfl
@[simp] theorem State.setSeq_result (s : State) (v : Byte) : (s.setSeq v).result = s.result := rfl
@[simp] theorem State.setSeq_artnetStart (s : State) (v : Byte) : (s.setSeq v).artnetStart = s.artnetStart := rfl
@[simp] theorem State.setSeq_e131Start (s : State) (v : Byte) : (s.setSeq v).e131Start = s.e131Start := rfl
@[simp] theorem State.setSeq_dest (s : State) (v : Byte) : (s.setSeq v).dest = s.dest := rfl
@[simp] theorem State.setSeq_frameLen (s : State) (v : Byte) : (s.setSeq v).frameLen = s.frameLen := rfl
@[simp] theorem State.setSeq_seq (s : State) (v : Byte) : (s.setSeq v).seq = v := rfl
@[simp] theorem State.setSeq_pktCount (s : State) (v : Byte) : (s.setSeq v).pktCount = s.pktCount := rfl
@[simp] theorem State.setSeq_poolA (s : State) (v : Byte) : (s.setSeq v).poolA = s.poolA := rfl
@[simp] theorem State.setSeq_poolE (s : State) (v : Byte) : (s.setSeq v).poolE = s.poolE := rfl
@[simp] theorem State.setSeq_loopIndex (s : State) (v : Byte) : (s.setSeq v).loopIndex = s.loopIndex := rfl
@[simp] theorem State.setSeq_fault (s : State) (v : Byte) : (s.setSeq v).fault = s.fault := rfl
@[simp] theorem State.setSeq_frame (s : State) (v : Byte) : (s.setSeq v).frame = s.frame := rfl
@[simp] theorem State.setSeq_pending (s : State) (v : Byte) : (s.setSeq v).pending = s.pending := rfl
@[simp] theorem State.setSeq_answers (s : State) (v : Byte) : (s.setSeq v).answers = s.answers := rfl
@[simp] theorem State.setSeq_draws (s : State) (v : Byte) : (s.setSeq v).draws = s.draws := rfl
@[simp] theorem State.setSeq_obs (s : State) (v : Byte) : (s.setSeq v).obs = s.obs := rfl

@[simp] theorem State.setPktCount_params (s : State) (v : Word) : (s.setPktCount v).params = s.params := rfl
@[simp] theorem State.setPktCount_proto (s : State) (v : Word) : (s.setPktCount v).proto = s.proto := rfl
@[simp] theorem State.setPktCount_session (s : State) (v : Word) : (s.setPktCount v).session = s.session := rfl
@[simp] theorem State.setPktCount_result (s : State) (v : Word) : (s.setPktCount v).result = s.result := rfl
@[simp] theorem State.setPktCount_artnetStart (s : State) (v : Word) : (s.setPktCount v).artnetStart = s.artnetStart := rfl
@[simp] theorem State.setPktCount_e131Start (s : State) (v : Word) : (s.setPktCount v).e131Start = s.e131Start := rfl
@[simp] theorem State.setPktCount_dest (s : State) (v : Word) : (s.setPktCount v).dest = s.dest := rfl
@[simp] theorem State.setPktCount_frameLen (s : State) (v : Word) : (s.setPktCount v).frameLen = s.frameLen := rfl
@[simp] theorem State.setPktCount_seq (s : State) (v : Word) : (s.setPktCount v).seq = s.seq := rfl
@[simp] theorem State.setPktCount_pktCount (s : State) (v : Word) : (s.setPktCount v).pktCount = v := rfl
@[simp] theorem State.setPktCount_poolA (s : State) (v : Word) : (s.setPktCount v).poolA = s.poolA := rfl
@[simp] theorem State.setPktCount_poolE (s : State) (v : Word) : (s.setPktCount v).poolE = s.poolE := rfl
@[simp] theorem State.setPktCount_loopIndex (s : State) (v : Word) : (s.setPktCount v).loopIndex = s.loopIndex := rfl
@[simp] theorem State.setPktCount_fault (s : State) (v : Word) : (s.setPktCount v).fault = s.fault := rfl
@[simp] theorem State.setPktCount_frame (s : State) (v : Word) : (s.setPktCount v).frame = s.frame := rfl
@[simp] theorem State.setPktCount_pending (s : State) (v : Word) : (s.setPktCount v).pending = s.pending := rfl
@[simp] theorem State.setPktCount_answers (s : State) (v : Word) : (s.setPktCount v).answers = s.answers := rfl
@[simp] theorem State.setPktCount_draws (s : State) (v : Word) : (s.setPktCount v).draws = s.draws := rfl
@[simp] theorem State.setPktCount_obs (s : State) (v : Word) : (s.setPktCount v).obs = s.obs := rfl

@[simp] theorem State.setPoolA_params (s : State) (v : Pool) : (s.setPoolA v).params = s.params := rfl
@[simp] theorem State.setPoolA_proto (s : State) (v : Pool) : (s.setPoolA v).proto = s.proto := rfl
@[simp] theorem State.setPoolA_session (s : State) (v : Pool) : (s.setPoolA v).session = s.session := rfl
@[simp] theorem State.setPoolA_result (s : State) (v : Pool) : (s.setPoolA v).result = s.result := rfl
@[simp] theorem State.setPoolA_artnetStart (s : State) (v : Pool) : (s.setPoolA v).artnetStart = s.artnetStart := rfl
@[simp] theorem State.setPoolA_e131Start (s : State) (v : Pool) : (s.setPoolA v).e131Start = s.e131Start := rfl
@[simp] theorem State.setPoolA_dest (s : State) (v : Pool) : (s.setPoolA v).dest = s.dest := rfl
@[simp] theorem State.setPoolA_frameLen (s : State) (v : Pool) : (s.setPoolA v).frameLen = s.frameLen := rfl
@[simp] theorem State.setPoolA_seq (s : State) (v : Pool) : (s.setPoolA v).seq = s.seq := rfl
@[simp] theorem State.setPoolA_pktCount (s : State) (v : Pool) : (s.setPoolA v).pktCount = s.pktCount := rfl
@[simp] theorem State.setPoolA_poolA (s : State) (v : Pool) : (s.setPoolA v).poolA = v := rfl
@[simp] theorem State.setPoolA_poolE (s : State) (v : Pool) : (s.setPoolA v).poolE = s.poolE := rfl
@[simp] theorem State.setPoolA_loopIndex (s : State) (v : Pool) : (s.setPoolA v).loopIndex = s.loopIndex := rfl
@[simp] theorem State.setPoolA_fault (s : State) (v : Pool) : (s.setPoolA v).fault = s.fault := rfl
@[simp] theorem State.setPoolA_frame (s : State) (v : Pool) : (s.setPoolA v).frame = s.frame := rfl
@[simp] theorem State.setPoolA_pending (s : State) (v : Pool) : (s.setPoolA v).pending = s.pending := rfl
@[simp] theorem State.setPoolA_answers (s : State) (v : Pool) : (s.setPoolA v).answers = s.answers := rfl
@[simp] theorem State.setPoolA_draws (s : State) (v : Pool) : (s.setPoolA v).draws = s.draws := rfl
@[simp] theorem State.setPoolA_obs (s : State) (v : Pool) : (s.setPoolA v).obs = s.obs := rfl

@[simp] theorem State.setPoolE_params (s : State) (v : Pool) : (s.setPoolE v).params = s.params := rfl
@[simp] theorem State.setPoolE_proto (s : State) (v : Pool) : (s.setPoolE v).proto = s.proto := rfl
@[simp] theorem State.setPoolE_session (s : State) (v : Pool) : (s.setPoolE v).session = s.session := rfl
@[simp] theorem State.setPoolE_result (s : State) (v : Pool) : (s.setPoolE v).result = s.result := rfl
@[simp] theorem State.setPoolE_artnetStart (s : State) (v : Pool) : (s.setPoolE v).artnetStart = s.artnetStart := rfl
@[simp] theorem State.setPoolE_e131Start (s : State) (v : Pool) : (s.setPoolE v).e131Start = s.e131Start := rfl
@[simp] theorem State.setPoolE_dest (s : State) (v : Pool) : (s.setPoolE v).dest = s.dest := rfl
@[simp] theorem State.setPoolE_frameLen (s : State) (v : Pool) : (s.setPoolE v).frameLen = s.frameLen := rfl
@[simp] theorem State.setPoolE_seq (s : State) (v : Pool) : (s.setPoolE v).seq = s.seq := rfl
@[simp] theorem State.setPoolE_pktCount (s : State) (v : Pool) : (s.setPoolE v).pktCount = s.pktCount := rfl
@[simp] theorem State.setPoolE_poolA (s : State) (v : Pool) : (s.setPoolE v).poolA = s.poolA := rfl
@[simp] theorem State.setPoolE_poolE (s : State) (v : Pool) : (s.setPoolE v).poolE = v := rfl
@[simp] theorem State.setPoolE_loopIndex (s : State) (v : Pool) : (s.setPoolE v).loopIndex = s.loopIndex := rfl
@[simp] theorem State.setPoolE_fault (s : State) (v : Pool) : (s.setPoolE v).fault = s.fault := rfl
@[simp] theorem State.setPoolE_frame (s : State) (v : Pool) : (s.setPoolE v).frame = s.frame := rfl
@[simp] theorem State.setPoolE_pending (s : State) (v : Pool) : (s.setPoolE v).pending = s.pending := rfl
@[simp] theorem State.setPoolE_answers (s : State) (v : Pool) : (s.setPoolE v).answers = s.answers := rfl
@[simp] theorem State.setPoolE_draws (s : State) (v : Pool) : (s.setPoolE v).draws = s.draws := rfl
@[simp] theorem State.setPoolE_obs (s : State) (v : Pool) : (s.setPoolE v).obs = s.obs := rfl

@[simp] theorem State.setLoopIndex_params (s : State) (v : Option Nat) : (s.setLoopIndex v).params = s.params := rfl
@[simp] theorem State.setLoopIndex_proto (s : State) (v : Option Nat) : (s.setLoopIndex v).proto = s.proto := rfl
@[simp] theorem State.setLoopIndex_session (s : State) (v : Option Nat) : (s.setLoopIndex v).session = s.session := rfl
@[simp] theorem State.setLoopIndex_result (s : State) (v : Option Nat) : (s.setLoopIndex v).result = s.result := rfl
@[simp] theorem State.setLoopIndex_artnetStart (s : State) (v : Option Nat) : (s.setLoopIndex v).artnetStart = s.artnetStart := rfl
@[simp] theorem State.setLoopIndex_e131Start (s : State) (v : Option Nat) : (s.setLoopIndex v).e131Start = s.e131Start := rfl
@[simp] theorem State.setLoopIndex_dest (s : State) (v : Option Nat) : (s.setLoopIndex v).dest = s.dest := rfl
@[simp] theorem State.setLoopIndex_frameLen (s : State) (v : Option Nat) : (s.setLoopIndex v).frameLen = s.frameLen := rfl
@[simp] theorem State.setLoopIndex_seq (s : State) (v : Option Nat) : (s.setLoopIndex v).seq = s.seq := rfl
@[simp] theorem State.setLoopIndex_pktCount (s : State) (v : Option Nat) : (s.setLoopIndex v).pktCount = s.pktCount := rfl
@[simp] theorem State.setLoopIndex_poolA (s : State) (v : Option Nat) : (s.setLoopIndex v).poolA = s.poolA := rfl
@[simp] theorem State.setLoopIndex_poolE (s : State) (v : Option Nat) : (s.setLoopIndex v).poolE = s.poolE := rfl
@[simp] theorem State.setLoopIndex_loopIndex (s : State) (v : Option Nat) : (s.setLoopIndex v).loopIndex = v := rfl
@[simp] theorem State.setLoopIndex_fault (s : State) (v : Option Nat) : (s.setLoopIndex v).fault = s.fault := rfl
@[simp] theorem State.setLoopIndex_frame (s : State) (v : Option Nat) : (s.setLoopIndex v).frame = s.frame := rfl
@[simp] theorem State.setLoopIndex_pending (s : State) (v : Option Nat) : (s.setLoopIndex v).pending = s.pending := rfl
@[simp] theorem State.setLoopIndex_answers (s : State) (v : Option Nat) : (s.setLoopIndex v).answers = s.answers := rfl
@[simp] theorem State.setLoopIndex_draws (s : State) (v : Option Nat) : (s.setLoopIndex v).draws = s.draws := rfl
@[simp] theorem State.setLoopIndex_obs (s : State) (v : Option Nat) : (s.setLoopIndex v).obs = s.obs := rfl

@[simp] theorem State.setFrame_params (s : State) (v : Memory) : (s.setFrame v).params = s.params := rfl
@[simp] theorem State.setFrame_proto (s : State) (v : Memory) : (s.setFrame v).proto = s.proto := rfl
@[simp] theorem State.setFrame_session (s : State) (v : Memory) : (s.setFrame v).session = s.session := rfl
@[simp] theorem State.setFrame_result (s : State) (v : Memory) : (s.setFrame v).result = s.result := rfl
@[simp] theorem State.setFrame_artnetStart (s : State) (v : Memory) : (s.setFrame v).artnetStart = s.artnetStart := rfl
@[simp] theorem State.setFrame_e131Start (s : State) (v : Memory) : (s.setFrame v).e131Start = s.e131Start := rfl
@[simp] theorem State.setFrame_dest (s : State) (v : Memory) : (s.setFrame v).dest = s.dest := rfl
@[simp] theorem State.setFrame_frameLen (s : State) (v : Memory) : (s.setFrame v).frameLen = s.frameLen := rfl
@[simp] theorem State.setFrame_seq (s : State) (v : Memory) : (s.setFrame v).seq = s.seq := rfl
@[simp] theorem State.setFrame_pktCount (s : State) (v : Memory) : (s.setFrame v).pktCount = s.pktCount := rfl
@[simp] theorem State.setFrame_poolA (s : State) (v : Memory) : (s.setFrame v).poolA = s.poolA := rfl
@[simp] theorem State.setFrame_poolE (s : State) (v : Memory) : (s.setFrame v).poolE = s.poolE := rfl
@[simp] theorem State.setFrame_loopIndex (s : State) (v : Memory) : (s.setFrame v).loopIndex = s.loopIndex := rfl
@[simp] theorem State.setFrame_fault (s : State) (v : Memory) : (s.setFrame v).fault = s.fault := rfl
@[simp] theorem State.setFrame_frame (s : State) (v : Memory) : (s.setFrame v).frame = v := rfl
@[simp] theorem State.setFrame_pending (s : State) (v : Memory) : (s.setFrame v).pending = s.pending := rfl
@[simp] theorem State.setFrame_answers (s : State) (v : Memory) : (s.setFrame v).answers = s.answers := rfl
@[simp] theorem State.setFrame_draws (s : State) (v : Memory) : (s.setFrame v).draws = s.draws := rfl
@[simp] theorem State.setFrame_obs (s : State) (v : Memory) : (s.setFrame v).obs = s.obs := rfl

@[simp] theorem State.setPending_params (s : State) (v : List HostMove) : (s.setPending v).params = s.params := rfl
@[simp] theorem State.setPending_proto (s : State) (v : List HostMove) : (s.setPending v).proto = s.proto := rfl
@[simp] theorem State.setPending_session (s : State) (v : List HostMove) : (s.setPending v).session = s.session := rfl
@[simp] theorem State.setPending_result (s : State) (v : List HostMove) : (s.setPending v).result = s.result := rfl
@[simp] theorem State.setPending_artnetStart (s : State) (v : List HostMove) : (s.setPending v).artnetStart = s.artnetStart := rfl
@[simp] theorem State.setPending_e131Start (s : State) (v : List HostMove) : (s.setPending v).e131Start = s.e131Start := rfl
@[simp] theorem State.setPending_dest (s : State) (v : List HostMove) : (s.setPending v).dest = s.dest := rfl
@[simp] theorem State.setPending_frameLen (s : State) (v : List HostMove) : (s.setPending v).frameLen = s.frameLen := rfl
@[simp] theorem State.setPending_seq (s : State) (v : List HostMove) : (s.setPending v).seq = s.seq := rfl
@[simp] theorem State.setPending_pktCount (s : State) (v : List HostMove) : (s.setPending v).pktCount = s.pktCount := rfl
@[simp] theorem State.setPending_poolA (s : State) (v : List HostMove) : (s.setPending v).poolA = s.poolA := rfl
@[simp] theorem State.setPending_poolE (s : State) (v : List HostMove) : (s.setPending v).poolE = s.poolE := rfl
@[simp] theorem State.setPending_loopIndex (s : State) (v : List HostMove) : (s.setPending v).loopIndex = s.loopIndex := rfl
@[simp] theorem State.setPending_fault (s : State) (v : List HostMove) : (s.setPending v).fault = s.fault := rfl
@[simp] theorem State.setPending_frame (s : State) (v : List HostMove) : (s.setPending v).frame = s.frame := rfl
@[simp] theorem State.setPending_pending (s : State) (v : List HostMove) : (s.setPending v).pending = v := rfl
@[simp] theorem State.setPending_answers (s : State) (v : List HostMove) : (s.setPending v).answers = s.answers := rfl
@[simp] theorem State.setPending_draws (s : State) (v : List HostMove) : (s.setPending v).draws = s.draws := rfl
@[simp] theorem State.setPending_obs (s : State) (v : List HostMove) : (s.setPending v).obs = s.obs := rfl

@[simp] theorem State.emit_params (s : State) (e : Event) : (s.emit e).params = s.params := rfl
@[simp] theorem State.emit_proto (s : State) (e : Event) : (s.emit e).proto = s.proto := rfl
@[simp] theorem State.emit_session (s : State) (e : Event) : (s.emit e).session = s.session := rfl
@[simp] theorem State.emit_result (s : State) (e : Event) : (s.emit e).result = s.result := rfl
@[simp] theorem State.emit_artnetStart (s : State) (e : Event) : (s.emit e).artnetStart = s.artnetStart := rfl
@[simp] theorem State.emit_e131Start (s : State) (e : Event) : (s.emit e).e131Start = s.e131Start := rfl
@[simp] theorem State.emit_dest (s : State) (e : Event) : (s.emit e).dest = s.dest := rfl
@[simp] theorem State.emit_frameLen (s : State) (e : Event) : (s.emit e).frameLen = s.frameLen := rfl
@[simp] theorem State.emit_seq (s : State) (e : Event) : (s.emit e).seq = s.seq := rfl
@[simp] theorem State.emit_pktCount (s : State) (e : Event) : (s.emit e).pktCount = s.pktCount := rfl
@[simp] theorem State.emit_poolA (s : State) (e : Event) : (s.emit e).poolA = s.poolA := rfl
@[simp] theorem State.emit_poolE (s : State) (e : Event) : (s.emit e).poolE = s.poolE := rfl
@[simp] theorem State.emit_loopIndex (s : State) (e : Event) : (s.emit e).loopIndex = s.loopIndex := rfl
@[simp] theorem State.emit_fault (s : State) (e : Event) : (s.emit e).fault = s.fault := rfl
@[simp] theorem State.emit_frame (s : State) (e : Event) : (s.emit e).frame = s.frame := rfl
@[simp] theorem State.emit_pending (s : State) (e : Event) : (s.emit e).pending = s.pending := rfl
@[simp] theorem State.emit_answers (s : State) (e : Event) : (s.emit e).answers = s.answers := rfl
@[simp] theorem State.emit_draws (s : State) (e : Event) : (s.emit e).draws = s.draws := rfl
@[simp] theorem State.emit_obs (s : State) (e : Event) : (s.emit e).obs = s.obs ++ [e] := rfl

@[simp] theorem State.takeAnswer_params (s : State) : (s.takeAnswer).params = s.params := rfl
@[simp] theorem State.takeAnswer_proto (s : State) : (s.takeAnswer).proto = s.proto := rfl
@[simp] theorem State.takeAnswer_session (s : State) : (s.takeAnswer).session = s.session := rfl
@[simp] theorem State.takeAnswer_result (s : State) : (s.takeAnswer).result = s.result := rfl
@[simp] theorem State.takeAnswer_artnetStart (s : State) : (s.takeAnswer).artnetStart = s.artnetStart := rfl
@[simp] theorem State.takeAnswer_e131Start (s : State) : (s.takeAnswer).e131Start = s.e131Start := rfl
@[simp] theorem State.takeAnswer_dest (s : State) : (s.takeAnswer).dest = s.dest := rfl
@[simp] theorem State.takeAnswer_frameLen (s : State) : (s.takeAnswer).frameLen = s.frameLen := rfl
@[simp] theorem State.takeAnswer_seq (s : State) : (s.takeAnswer).seq = s.seq := rfl
@[simp] theorem State.takeAnswer_pktCount (s : State) : (s.takeAnswer).pktCount = s.pktCount := rfl
@[simp] theorem State.takeAnswer_poolA (s : State) : (s.takeAnswer).poolA = s.poolA := rfl
@[simp] theorem State.takeAnswer_poolE (s : State) : (s.takeAnswer).poolE = s.poolE := rfl
@[simp] theorem State.takeAnswer_loopIndex (s : State) : (s.takeAnswer).loopIndex = s.loopIndex := rfl
@[simp] theorem State.takeAnswer_fault (s : State) : (s.takeAnswer).fault = s.fault := rfl
@[simp] theorem State.takeAnswer_frame (s : State) : (s.takeAnswer).frame = s.frame := rfl
@[simp] theorem State.takeAnswer_pending (s : State) : (s.takeAnswer).pending = s.pending := rfl
@[simp] theorem State.takeAnswer_answers (s : State) : (s.takeAnswer).answers = s.answers.tail := rfl
@[simp] theorem State.takeAnswer_draws (s : State) : (s.takeAnswer).draws = s.draws + 1 := rfl
@[simp] theorem State.takeAnswer_obs (s : State) : (s.takeAnswer).obs = s.obs := rfl

@[simp] theorem State.finish_params (s : State) (code : ResultCode) : (s.finish code).params = s.params := rfl
@[simp] theorem State.finish_proto (s : State) (code : ResultCode) : (s.finish code).proto = s.proto := rfl
@[simp] theorem State.finish_session (s : State) (code : ResultCode) : (s.finish code).session = s.session := rfl
@[simp] theorem State.finish_result (s : State) (code : ResultCode) : (s.finish code).result = code := rfl
@[simp] theorem State.finish_artnetStart (s : State) (code : ResultCode) : (s.finish code).artnetStart = s.artnetStart := rfl
@[simp] theorem State.finish_e131Start (s : State) (code : ResultCode) : (s.finish code).e131Start = s.e131Start := rfl
@[simp] theorem State.finish_dest (s : State) (code : ResultCode) : (s.finish code).dest = s.dest := rfl
@[simp] theorem State.finish_frameLen (s : State) (code : ResultCode) : (s.finish code).frameLen = s.frameLen := rfl
@[simp] theorem State.finish_seq (s : State) (code : ResultCode) : (s.finish code).seq = s.seq := rfl
@[simp] theorem State.finish_pktCount (s : State) (code : ResultCode) : (s.finish code).pktCount = s.pktCount := rfl
@[simp] theorem State.finish_poolA (s : State) (code : ResultCode) : (s.finish code).poolA = s.poolA := rfl
@[simp] theorem State.finish_poolE (s : State) (code : ResultCode) : (s.finish code).poolE = s.poolE := rfl
@[simp] theorem State.finish_loopIndex (s : State) (code : ResultCode) : (s.finish code).loopIndex = none := rfl
@[simp] theorem State.finish_fault (s : State) (code : ResultCode) : (s.finish code).fault = s.fault := rfl
@[simp] theorem State.finish_frame (s : State) (code : ResultCode) : (s.finish code).frame = s.frame := rfl
@[simp] theorem State.finish_pending (s : State) (code : ResultCode) : (s.finish code).pending = s.pending := rfl
@[simp] theorem State.finish_answers (s : State) (code : ResultCode) : (s.finish code).answers = s.answers := rfl
@[simp] theorem State.finish_draws (s : State) (code : ResultCode) : (s.finish code).draws = s.draws := rfl
@[simp] theorem State.finish_obs (s : State) (code : ResultCode) : (s.finish code).obs = s.obs := rfl

@[simp] theorem State.callTransport_params (s : State) (e : Event) : (s.callTransport e).params = s.params := rfl
@[simp] theorem State.callTransport_proto (s : State) (e : Event) : (s.callTransport e).proto = s.proto := rfl
@[simp] theorem State.callTransport_session (s : State) (e : Event) : (s.callTransport e).session = s.session := rfl
@[simp] theorem State.callTransport_result (s : State) (e : Event) : (s.callTransport e).result = s.result := rfl
@[simp] theorem State.callTransport_artnetStart (s : State) (e : Event) : (s.callTransport e).artnetStart = s.artnetStart := rfl
@[simp] theorem State.callTransport_e131Start (s : State) (e : Event) : (s.callTransport e).e131Start = s.e131Start := rfl
@[simp] theorem State.callTransport_dest (s : State) (e : Event) : (s.callTransport e).dest = s.dest := rfl
@[simp] theorem State.callTransport_frameLen (s : State) (e : Event) : (s.callTransport e).frameLen = s.frameLen := rfl
@[simp] theorem State.callTransport_seq (s : State) (e : Event) : (s.callTransport e).seq = s.seq := rfl
@[simp] theorem State.callTransport_pktCount (s : State) (e : Event) : (s.callTransport e).pktCount = s.pktCount := rfl
@[simp] theorem State.callTransport_poolA (s : State) (e : Event) : (s.callTransport e).poolA = s.poolA := rfl
@[simp] theorem State.callTransport_poolE (s : State) (e : Event) : (s.callTransport e).poolE = s.poolE := rfl
@[simp] theorem State.callTransport_loopIndex (s : State) (e : Event) : (s.callTransport e).loopIndex = s.loopIndex := rfl
@[simp] theorem State.callTransport_fault (s : State) (e : Event) : (s.callTransport e).fault = s.fault := rfl
@[simp] theorem State.callTransport_frame (s : State) (e : Event) : (s.callTransport e).frame = s.frame := rfl
@[simp] theorem State.callTransport_pending (s : State) (e : Event) : (s.callTransport e).pending = s.pending := rfl
@[simp] theorem State.callTransport_answers (s : State) (e : Event) : (s.callTransport e).answers = s.answers.tail := rfl
@[simp] theorem State.callTransport_draws (s : State) (e : Event) : (s.callTransport e).draws = s.draws + 1 := rfl
@[simp] theorem State.callTransport_obs (s : State) (e : Event) : (s.callTransport e).obs = s.obs ++ [e] := rfl

@[simp] theorem State.applyReset_params (s : State) : s.applyReset.params = s.params := rfl
@[simp] theorem State.applyReset_proto (s : State) : s.applyReset.proto = .artnet := rfl
@[simp] theorem State.applyReset_session (s : State) : s.applyReset.session = false := rfl
@[simp] theorem State.applyReset_result (s : State) : s.applyReset.result = .ok := rfl
@[simp] theorem State.applyReset_artnetStart (s : State) : s.applyReset.artnetStart = 0 := rfl
@[simp] theorem State.applyReset_e131Start (s : State) : s.applyReset.e131Start = 1 := rfl
@[simp] theorem State.applyReset_dest (s : State) : s.applyReset.dest = 0 := rfl
@[simp] theorem State.applyReset_frameLen (s : State) : s.applyReset.frameLen = 0 := rfl
@[simp] theorem State.applyReset_seq (s : State) : s.applyReset.seq = 1 := rfl
@[simp] theorem State.applyReset_pktCount (s : State) : s.applyReset.pktCount = 0 := rfl
@[simp] theorem State.applyReset_poolA (s : State) : s.applyReset.poolA = [] := rfl
@[simp] theorem State.applyReset_poolE (s : State) : s.applyReset.poolE = [] := rfl
@[simp] theorem State.applyReset_loopIndex (s : State) : s.applyReset.loopIndex = none := rfl
@[simp] theorem State.applyReset_fault (s : State) : s.applyReset.fault = s.fault := rfl
@[simp] theorem State.applyReset_frame (s : State) : s.applyReset.frame = s.frame := rfl
@[simp] theorem State.applyReset_pending (s : State) : s.applyReset.pending = s.pending := rfl
@[simp] theorem State.applyReset_answers (s : State) : s.applyReset.answers = s.answers := rfl
@[simp] theorem State.applyReset_draws (s : State) : s.applyReset.draws = s.draws := rfl
@[simp] theorem State.applyReset_obs (s : State) :
    s.applyReset.obs = if s.session then s.obs ++ [.transportClose] else s.obs := by
  cases h : s.session <;> simp [State.applyReset, h]

end Sys2Proof.Machine
end

