-- ==== Sys2Proof/Laws/Wire.lean ====
section
/-! SUPPORT. The lengths of the wire formats, and what an encoder builds from a pool that is as R36 says. -/

namespace Sys2Proof.Machine

@[simp] theorem zeros_length (n : Nat) : (zeros n).length = n := by simp [zeros]

@[simp] theorem pad_length (s : Bytes) (n : Nat) : (pad s n).length = n := by
  simp [pad]; omega

@[simp] theorem payload_length (chunk : Bytes) : (payload chunk).length = 512 := by simp [payload]

@[simp] theorem artnetHeader_length (p : Params) (u : Nat) : (artnetHeader p u).length = 18 := by
  simp [artnetHeader, artnetId, le16, be16]

@[simp] theorem e131Header_length (p : Params) (u : Nat) (s : Byte) : (e131Header p u s).length = 126 := by
  simp [e131Header, rootLayer, framingLayer, dmpLayer, flagsLength, be16, be32]

@[simp] theorem header_artnet (p : Params) (u : Nat) (s : Byte) : header p .artnet u s = artnetHeader p u := rfl

@[simp] theorem header_e131 (p : Params) (u : Nat) (s : Byte) : header p .e131 u s = e131Header p u s := rfl

@[simp] theorem header_length (p : Params) (proto : Protocol) (u : Nat) (s : Byte) :
    (header p proto u s).length = proto.headerLength := by
  cases proto <;> simp [header, Protocol.headerLength]

/-- The part of an E1.31 header before the sequence byte does not depend on it, nor does the part after. -/
theorem e131Header_split (p : Params) (u : Nat) : ∃ a b : Bytes, a.length = 111 ∧
    ∀ s, e131Header p u s = a ++ s :: b := by
  refine ⟨rootLayer p ++ (flagsLength p 38 ++ be32 0x00000002 ++ pad p.sourceName 64 ++ [0x00] ++ [0x00, 0x00]),
    [0x00] ++ be16 u ++ dmpLayer p, ?_, ?_⟩
  · simp [rootLayer, flagsLength, be16, be32]
  · intro s
    simp [e131Header, framingLayer]

theorem e131Header_set (p : Params) (u : Nat) (s q : Byte) : (e131Header p u s).set 111 q = e131Header p u q := by
  obtain ⟨a, b, ha, h⟩ := e131Header_split p u
  rw [h, h, ← ha]
  simp

theorem e131Header_getD (p : Params) (u : Nat) (s : Byte) (rest : Bytes) :
    (e131Header p u s ++ rest).getD 111 0 = s := by
  obtain ⟨a, b, ha, h⟩ := e131Header_split p u
  rw [h, ← ha]
  simp [List.getD]

/-- In a state whose pools are as R36 says, the Art-Net encoder's packet is the header and the payload. -/
theorem encodeArtnet_packet {s : State} (h : poolAWf s.params s.poolA) (u : Nat) (chunk : Bytes) :
    (encodeArtnet u chunk s).1 = artnetHeader s.params u ++ payload chunk := by
  have : (s.artnetBuffer u).take 18 = artnetHeader s.params u := by
    unfold State.artnetBuffer
    cases hg : s.poolA.get u with
    | none => simp
    | some buf => exact (h.2 _ (mem_of_readCell hg)).2.2
  simp [encodeArtnet, this]

/-- In a state whose pools are as R36 says, the E1.31 encoder's packet is the header with `SEQ`, and the payload. -/
theorem encodeE131_packet {s : State} (h : poolEWf s.params s.poolE) (u : Nat) (chunk : Bytes) :
    (encodeE131 u chunk s).1 = e131Header s.params u s.seq ++ payload chunk := by
  have : ((s.e131Buffer u).set 111 s.seq).take 126 = e131Header s.params u s.seq := by
    unfold State.e131Buffer
    cases hg : s.poolE.get u with
    | none =>
      simp only [Option.getD_none]
      rw [List.set_append_left _ _ (by simp), e131Header_set, List.take_append_of_le_length (by simp),
        List.take_of_length_le (by simp)]
    | some buf =>
      have hb := (h.2 _ (mem_of_readCell hg)).2.2
      simp only [Option.getD_some]
      rw [List.take_set, hb, e131Header_set]
  simp [encodeE131, this]

theorem encodePacket_packet {s : State} (hA : poolAWf s.params s.poolA) (hE : poolEWf s.params s.poolE)
    (proto : Protocol) (u : Nat) (chunk : Bytes) :
    (encodePacket proto u chunk s).1 = header s.params proto u s.seq ++ payload chunk := by
  cases proto
  · exact encodeArtnet_packet hA u chunk
  · exact encodeE131_packet hE u chunk

/-- A packet of the Art-Net encoder may stand in `POOL_A`. -/
theorem poolAWf_put {p : Params} {m : Pool} {u : Nat} {c : Bytes} (h : poolAWf p m) (hu : u ≤ 65535)
    (hc : c.length = 512) : poolAWf p (m.put u (artnetHeader p u ++ c)) := by
  refine ⟨writeCell_sorted _ _ h.1, fun x hx => ?_⟩
  rcases mem_of_mem_writeCell hx with rfl | hx
  · exact ⟨hu, by simp [hc], by simp⟩
  · exact h.2 x hx

/-- A packet of the E1.31 encoder may stand in `POOL_E`. -/
theorem poolEWf_put {p : Params} {m : Pool} {u : Nat} {s : Byte} {c : Bytes} (h : poolEWf p m) (hu : u ≤ 65535)
    (hc : c.length = 512) : poolEWf p (m.put u (e131Header p u s ++ c)) := by
  refine ⟨writeCell_sorted _ _ h.1, fun x hx => ?_⟩
  rcases mem_of_mem_writeCell hx with rfl | hx
  · refine ⟨hu, by simp [hc], ?_⟩
    simp only
    rw [e131Header_getD]
    simp
  · exact h.2 x hx

/-- A flags/length field by its two bytes, for every flag nibble. -/
theorem flagsLength_eq (p : Params) {f len : Nat} (hl : pduLen f &&& 0x0FFF = len) (h : len < 4096) :
    flagsLength p f = [BitVec.ofNat 8 (p.flagNibble.toNat * 16 + len / 256), BitVec.ofNat 8 len] := by
  unfold flagsLength be16
  rw [hl, ← Nat.shiftLeft_add_eq_or_of_lt (show len < 2 ^ 12 from h), Nat.shiftLeft_eq]
  congr 1
  · apply BitVec.eq_of_toNat_eq
    simp only [byteOf, BitVec.toNat_ofNat, Nat.shiftRight_eq_div_pow]
    omega
  · congr 1
    apply BitVec.eq_of_toNat_eq
    simp only [byteOf, BitVec.toNat_ofNat, Nat.shiftRight_eq_div_pow]
    omega

/-- The payload of a chunk whose bytes are `f` at their frame addresses: `f` below the frame's end, then zeros. -/
theorem payload_chunk (len i : Nat) (f : Nat → Byte) :
    payload ((List.range (chunkLength len i)).map fun j => f (chunkStart i + j)) =
      (List.range 512).map fun j => if i * 512 + j < len then f (i * 512 + j) else 0 := by
  have hl : chunkLength len i ≤ 512 := by unfold chunkLength chunkStart; omega
  apply List.ext_getElem
  · simp
  · intro j h1 h2
    simp only [List.length_map, List.length_range] at h2
    simp only [payload, pad, zeros]
    by_cases hj : j < chunkLength len i
    · have : i * 512 + j < len := by unfold chunkLength chunkStart at hj; omega
      rw [List.getElem_append_left (by simp; omega)]
      simp [this, chunkStart]
    · have : ¬ i * 512 + j < len := by unfold chunkLength chunkStart at hj; omega
      rw [List.getElem_append_right (by simp; omega)]
      simp [this]

end Sys2Proof.Machine
end

