-- ==== Sys2Proof/Laws/Send.lean ====
section
/-! SUPPORT. What one pass of the universe loop, the loop and FRAME_SEND can do. -/

namespace Sys2Proof.Machine

/-! Building a packet changes `SEQ` and the active protocol's pool only. -/

@[simp] theorem encodePacket_params (proto : Protocol) (u : Nat) (chunk : Bytes) (s : State) :
    (encodePacket proto u chunk s).2.params = s.params := by
  cases proto <;> simp only [encodePacket, encodeArtnet, encodeE131] <;> (try split) <;> rfl

@[simp] theorem encodePacket_proto (proto : Protocol) (u : Nat) (chunk : Bytes) (s : State) :
    (encodePacket proto u chunk s).2.proto = s.proto := by
  cases proto <;> simp only [encodePacket, encodeArtnet, encodeE131] <;> (try split) <;> rfl

@[simp] theorem encodePacket_session (proto : Protocol) (u : Nat) (chunk : Bytes) (s : State) :
    (encodePacket proto u chunk s).2.session = s.session := by
  cases proto <;> simp only [encodePacket, encodeArtnet, encodeE131] <;> (try split) <;> rfl

@[simp] theorem encodePacket_result (proto : Protocol) (u : Nat) (chunk : Bytes) (s : State) :
    (encodePacket proto u chunk s).2.result = s.result := by
  cases proto <;> simp only [encodePacket, encodeArtnet, encodeE131] <;> (try split) <;> rfl

@[simp] theorem encodePacket_artnetStart (proto : Protocol) (u : Nat) (chunk : Bytes) (s : State) :
    (encodePacket proto u chunk s).2.artnetStart = s.artnetStart := by
  cases proto <;> simp only [encodePacket, encodeArtnet, encodeE131] <;> (try split) <;> rfl

@[simp] theorem encodePacket_e131Start (proto : Protocol) (u : Nat) (chunk : Bytes) (s : State) :
    (encodePacket proto u chunk s).2.e131Start = s.e131Start := by
  cases proto <;> simp only [encodePacket, encodeArtnet, encodeE131] <;> (try split) <;> rfl

@[simp] theorem encodePacket_dest (proto : Protocol) (u : Nat) (chunk : Bytes) (s : State) :
    (encodePacket proto u chunk s).2.dest = s.dest := by
  cases proto <;> simp only [encodePacket, encodeArtnet, encodeE131] <;> (try split) <;> rfl

@[simp] theorem encodePacket_frameLen (proto : Protocol) (u : Nat) (chunk : Bytes) (s : State) :
    (encodePacket proto u chunk s).2.frameLen = s.frameLen := by
  cases proto <;> simp only [encodePacket, encodeArtnet, encodeE131] <;> (try split) <;> rfl

@[simp] theorem encodePacket_pktCount (proto : Protocol) (u : Nat) (chunk : Bytes) (s : State) :
    (encodePacket proto u chunk s).2.pktCount = s.pktCount := by
  cases proto <;> simp only [encodePacket, encodeArtnet, encodeE131] <;> (try split) <;> rfl

@[simp] theorem encodePacket_loopIndex (proto : Protocol) (u : Nat) (chunk : Bytes) (s : State) :
    (encodePacket proto u chunk s).2.loopIndex = s.loopIndex := by
  cases proto <;> simp only [encodePacket, encodeArtnet, encodeE131] <;> (try split) <;> rfl

@[simp] theorem encodePacket_fault (proto : Protocol) (u : Nat) (chunk : Bytes) (s : State) :
    (encodePacket proto u chunk s).2.fault = s.fault := by
  cases proto <;> simp only [encodePacket, encodeArtnet, encodeE131] <;> (try split) <;> rfl

@[simp] theorem encodePacket_frame (proto : Protocol) (u : Nat) (chunk : Bytes) (s : State) :
    (encodePacket proto u chunk s).2.frame = s.frame := by
  cases proto <;> simp only [encodePacket, encodeArtnet, encodeE131] <;> (try split) <;> rfl

@[simp] theorem encodePacket_pending (proto : Protocol) (u : Nat) (chunk : Bytes) (s : State) :
    (encodePacket proto u chunk s).2.pending = s.pending := by
  cases proto <;> simp only [encodePacket, encodeArtnet, encodeE131] <;> (try split) <;> rfl

@[simp] theorem encodePacket_answers (proto : Protocol) (u : Nat) (chunk : Bytes) (s : State) :
    (encodePacket proto u chunk s).2.answers = s.answers := by
  cases proto <;> simp only [encodePacket, encodeArtnet, encodeE131] <;> (try split) <;> rfl

@[simp] theorem encodePacket_draws (proto : Protocol) (u : Nat) (chunk : Bytes) (s : State) :
    (encodePacket proto u chunk s).2.draws = s.draws := by
  cases proto <;> simp only [encodePacket, encodeArtnet, encodeE131] <;> (try split) <;> rfl

@[simp] theorem encodePacket_obs (proto : Protocol) (u : Nat) (chunk : Bytes) (s : State) :
    (encodePacket proto u chunk s).2.obs = s.obs := by
  cases proto <;> simp only [encodePacket, encodeArtnet, encodeE131] <;> (try split) <;> rfl

@[simp] theorem encodePacket_poolA (proto : Protocol) (u : Nat) (chunk : Bytes) (s : State) :
    (encodePacket proto u chunk s).2.poolA =
      if proto = .artnet then s.poolA.put u (encodePacket proto u chunk s).1 else s.poolA := by
  cases proto
  · rfl
  · cases h : s.params.seqAdvanceOnFail <;> simp [encodePacket, encodeE131, State.advanceSeq, h]

@[simp] theorem encodePacket_poolE (proto : Protocol) (u : Nat) (chunk : Bytes) (s : State) :
    (encodePacket proto u chunk s).2.poolE =
      if proto = .e131 then s.poolE.put u (encodePacket proto u chunk s).1 else s.poolE := by
  cases proto
  · rfl
  · cases h : s.params.seqAdvanceOnFail <;> simp [encodePacket, encodeE131, State.advanceSeq, h]

@[simp] theorem encodePacket_seq (proto : Protocol) (u : Nat) (chunk : Bytes) (s : State) :
    (encodePacket proto u chunk s).2.seq =
      if proto = .e131 ∧ s.params.seqAdvanceOnFail = true then s.seq + 1 else s.seq := by
  cases proto
  · simp [encodePacket, encodeArtnet]
  · cases h : s.params.seqAdvanceOnFail <;> simp [encodePacket, encodeE131, State.advanceSeq, h]

/-! After an `ok`. -/

@[simp] theorem State.afterOk_seq (s : State) (args : SendArgs) (i : Nat) :
    (s.afterOk args i).seq =
      if args.proto = .e131 ∧ s.params.seqAdvanceOnFail = false then s.seq + 1 else s.seq := by
  simp only [State.afterOk]; split <;> simp [State.advanceSeq]

@[simp] theorem State.afterOk_pktCount (s : State) (args : SendArgs) (i : Nat) :
    (s.afterOk args i).pktCount = s.pktCount + 1 := by
  simp only [State.afterOk]; split <;> simp [State.advanceSeq]

@[simp] theorem State.afterOk_loopIndex (s : State) (args : SendArgs) (i : Nat) :
    (s.afterOk args i).loopIndex = some (i + 1) := rfl

@[simp] theorem State.afterOk_params (s : State) (args : SendArgs) (i : Nat) : (s.afterOk args i).params = s.params := by
  simp only [State.afterOk]; split <;> rfl

@[simp] theorem State.afterOk_proto (s : State) (args : SendArgs) (i : Nat) : (s.afterOk args i).proto = s.proto := by
  simp only [State.afterOk]; split <;> rfl

@[simp] theorem State.afterOk_session (s : State) (args : SendArgs) (i : Nat) : (s.afterOk args i).session = s.session := by
  simp only [State.afterOk]; split <;> rfl

@[simp] theorem State.afterOk_result (s : State) (args : SendArgs) (i : Nat) : (s.afterOk args i).result = s.result := by
  simp only [State.afterOk]; split <;> rfl

@[simp] theorem State.afterOk_artnetStart (s : State) (args : SendArgs) (i : Nat) : (s.afterOk args i).artnetStart = s.artnetStart := by
  simp only [State.afterOk]; split <;> rfl

@[simp] theorem State.afterOk_e131Start (s : State) (args : SendArgs) (i : Nat) : (s.afterOk args i).e131Start = s.e131Start := by
  simp only [State.afterOk]; split <;> rfl

@[simp] theorem State.afterOk_dest (s : State) (args : SendArgs) (i : Nat) : (s.afterOk args i).dest = s.dest := by
  simp only [State.afterOk]; split <;> rfl

@[simp] theorem State.afterOk_frameLen (s : State) (args : SendArgs) (i : Nat) : (s.afterOk args i).frameLen = s.frameLen := by
  simp only [State.afterOk]; split <;> rfl

@[simp] theorem State.afterOk_poolA (s : State) (args : SendArgs) (i : Nat) : (s.afterOk args i).poolA = s.poolA := by
  simp only [State.afterOk]; split <;> rfl

@[simp] theorem State.afterOk_poolE (s : State) (args : SendArgs) (i : Nat) : (s.afterOk args i).poolE = s.poolE := by
  simp only [State.afterOk]; split <;> rfl

@[simp] theorem State.afterOk_fault (s : State) (args : SendArgs) (i : Nat) : (s.afterOk args i).fault = s.fault := by
  simp only [State.afterOk]; split <;> rfl

@[simp] theorem State.afterOk_frame (s : State) (args : SendArgs) (i : Nat) : (s.afterOk args i).frame = s.frame := by
  simp only [State.afterOk]; split <;> rfl

@[simp] theorem State.afterOk_pending (s : State) (args : SendArgs) (i : Nat) : (s.afterOk args i).pending = s.pending := by
  simp only [State.afterOk]; split <;> rfl

@[simp] theorem State.afterOk_answers (s : State) (args : SendArgs) (i : Nat) : (s.afterOk args i).answers = s.answers := by
  simp only [State.afterOk]; split <;> rfl

@[simp] theorem State.afterOk_draws (s : State) (args : SendArgs) (i : Nat) : (s.afterOk args i).draws = s.draws := by
  simp only [State.afterOk]; split <;> rfl

@[simp] theorem State.afterOk_obs (s : State) (args : SendArgs) (i : Nat) : (s.afterOk args i).obs = s.obs := by
  simp only [State.afterOk]; split <;> rfl

/-! The transport's answers. -/

theorem State.answer_congr {s t : State} (ha : t.answers = s.answers) (hd : t.draws = s.draws) :
    t.answer = s.answer := by
  simp [State.answer, State.answerAt, ha, hd]

/-- Once an answer is used up, the others come in the same order. -/
theorem State.answerAt_succ {s t : State} (ha : t.answers = s.answers.tail) (hd : t.draws = s.draws + 1) (k : Nat) :
    t.answerAt k = s.answerAt (k + 1) := by
  simp only [State.answerAt, ha, hd]
  cases s.answers <;> simp [Nat.add_assoc, Nat.add_comm 1 k]

/-! One pass of the loop. -/

/-- The state in which the packet of the current universe has been built. -/
def State.built (args : SendArgs) (chunk : Bytes) (s : State) : Bytes × State :=
  encodePacket args.proto (chunkUniverse args.base s.index) chunk s

/-- The state in which that packet has been handed over, before its answer is acted on. -/
def State.handed (args : SendArgs) (chunk : Bytes) (s : State) : State :=
  (s.built args chunk).2.callTransport (.transportSend ⟨(s.built args chunk).1, args.dest, args.proto.port⟩)

/-- What a pass does where its chunk is defined: the transport's answer alone decides. -/
theorem sendUniverse_eq {args : SendArgs} {s : State} {chunk : Bytes} (h : s.chunk args.len s.index = .ok chunk) :
    sendUniverse args s =
      match s.answer with
      | .fail => .failed (s.handed args chunk)
      | .ok => .sent ((s.handed args chunk).afterOk args s.index) := by
  have : (s.built args chunk).2.answer = s.answer :=
    State.answer_congr (encodePacket_answers ..) (encodePacket_draws ..)
  simp only [sendUniverse, h, handOver, ← this]
  rfl

/-- A pass that got an `ok`. -/
theorem sendUniverse_sent {args : SendArgs} {s t : State} (h : sendUniverse args s = .sent t) :
    ∃ chunk, s.chunk args.len s.index = .ok chunk ∧ s.answer = .ok ∧
      t = (s.handed args chunk).afterOk args s.index := by
  cases hc : s.chunk args.len s.index with
  | error a => simp [sendUniverse, hc] at h
  | ok chunk =>
    rw [sendUniverse_eq hc] at h
    cases ha : s.answer <;> simp [ha] at h
    exact ⟨chunk, rfl, rfl, h.symm⟩

/-- A pass that got a `fail`. -/
theorem sendUniverse_failed {args : SendArgs} {s t : State} (h : sendUniverse args s = .failed t) :
    ∃ chunk, s.chunk args.len s.index = .ok chunk ∧ s.answer = .fail ∧ t = s.handed args chunk := by
  cases hc : s.chunk args.len s.index with
  | error a => simp [sendUniverse, hc] at h
  | ok chunk =>
    rw [sendUniverse_eq hc] at h
    cases ha : s.answer <;> simp [ha] at h
    exact ⟨chunk, rfl, rfl, h.symm⟩

/-! The pool of a protocol. -/

@[simp] theorem State.finish_poolOf (s : State) (code : ResultCode) (proto : Protocol) :
    (s.finish code).poolOf proto = s.poolOf proto := by cases proto <;> rfl

@[simp] theorem State.afterOk_poolOf (s : State) (args : SendArgs) (i : Nat) (proto : Protocol) :
    (s.afterOk args i).poolOf proto = s.poolOf proto := by cases proto <;> simp [State.poolOf]

/-- The packet that is handed over stands in the active protocol's pool, at its universe. -/
theorem State.handed_poolOf (args : SendArgs) (chunk : Bytes) (s : State) :
    (s.handed args chunk).poolOf args.proto =
      (s.poolOf args.proto).put (chunkUniverse args.base s.index) (s.built args chunk).1 := by
  cases h : args.proto <;> simp [State.poolOf, State.handed, State.built, h]

/-- What a pass of the loop leaves as it was. -/
structure PassKeeps (s t : State) : Prop where
  params : t.params = s.params
  proto : t.proto = s.proto
  session : t.session = s.session
  artnetStart : t.artnetStart = s.artnetStart
  e131Start : t.e131Start = s.e131Start
  dest : t.dest = s.dest
  frameLen : t.frameLen = s.frameLen
  fault : t.fault = s.fault
  frame : t.frame = s.frame
  pending : t.pending = s.pending

theorem PassKeeps.refl (s : State) : PassKeeps s s := ⟨rfl, rfl, rfl, rfl, rfl, rfl, rfl, rfl, rfl, rfl⟩

theorem PassKeeps.trans {s t u : State} (h : PassKeeps s t) (g : PassKeeps t u) : PassKeeps s u :=
  ⟨g.params.trans h.params, g.proto.trans h.proto, g.session.trans h.session, g.artnetStart.trans h.artnetStart,
    g.e131Start.trans h.e131Start, g.dest.trans h.dest, g.frameLen.trans h.frameLen, g.fault.trans h.fault,
    g.frame.trans h.frame, g.pending.trans h.pending⟩

theorem handed_keeps (args : SendArgs) (chunk : Bytes) (s : State) : PassKeeps s (s.handed args chunk) := by
  constructor <;> simp [State.handed, State.built]

theorem afterOk_keeps (args : SendArgs) (s : State) (i : Nat) : PassKeeps s (s.afterOk args i) := by
  constructor <;> simp

theorem sendUniverse_sent_keeps {args : SendArgs} {s t : State} (h : sendUniverse args s = .sent t) :
    PassKeeps s t := by
  obtain ⟨chunk, _, _, rfl⟩ := sendUniverse_sent h
  exact (handed_keeps _ _ _).trans (afterOk_keeps _ _ _)

theorem sendUniverse_failed_keeps {args : SendArgs} {s t : State} (h : sendUniverse args s = .failed t) :
    PassKeeps s t := by
  obtain ⟨chunk, _, _, rfl⟩ := sendUniverse_failed h
  exact handed_keeps _ _ _

/-! The loop. -/

/-- `n` passes of the loop that all got an `ok` lead from one state to another. -/
inductive SentRun (args : SendArgs) : Nat → State → State → Prop where
  | zero (s : State) : SentRun args 0 s s
  | succ {n : Nat} {s t u : State} (first : sendUniverse args s = .sent t) (rest : SentRun args n t u) :
      SentRun args (n + 1) s u

theorem SentRun.snoc {args : SendArgs} {n : Nat} {s t u : State} (h : SentRun args n s t)
    (last : sendUniverse args t = .sent u) : SentRun args (n + 1) s u := by
  induction h with
  | zero s => exact .succ last (.zero u)
  | succ first _ ih => exact .succ first (ih last)

/-- Passes that got an `ok` were answered so, one answer a pass, and the later answers are still to come. -/
theorem SentRun.answers {args : SendArgs} {k : Nat} {s u : State} (h : SentRun args k s u) :
    (∀ j, j < k → s.answerAt j = .ok) ∧ ∀ j, u.answerAt j = s.answerAt (k + j) := by
  induction h with
  | zero s => exact ⟨fun j h => absurd h (Nat.not_lt_zero j), fun j => by rw [Nat.zero_add]⟩
  | @succ n s t u first _ ih =>
    obtain ⟨chunk, _, hok, rfl⟩ := sendUniverse_sent first
    have hnext := State.answerAt_succ (s := s) (t := (s.handed args chunk).afterOk args s.index)
      (by simp [State.handed, State.built]) (by simp [State.handed, State.built])
    refine ⟨fun j hj => ?_, fun j => ?_⟩
    · cases j with
      | zero => exact hok
      | succ j => rw [← hnext]; exact ih.1 j (Nat.lt_of_succ_lt_succ hj)
    · rw [ih.2, hnext]
      congr 1
      omega

/-- The loop after passes that got an `ok` goes on from where they lead. -/
theorem SentRun.sendLoop_eq {args : SendArgs} {k : Nat} {s u : State} (h : SentRun args k s u) (n : Nat) :
    sendLoop args (k + n) s = sendLoop args n u := by
  induction h with
  | zero s => rw [Nat.zero_add]
  | succ first _ ih =>
    rw [Nat.succ_add]
    simp only [sendLoop, first]
    exact ih

/-- How the loop can end: every pass got an `ok`, or one got a `fail`. -/
theorem sendLoop_next {args : SendArgs} {n : Nat} {s t : State} (h : sendLoop args n s = .next t) :
    (∃ u, SentRun args n s u ∧ t = u.finish .ok) ∨
    (∃ k u v, k < n ∧ SentRun args k s u ∧ sendUniverse args u = .failed v ∧ t = v.finish .transport) := by
  induction n generalizing s with
  | zero =>
    simp only [sendLoop, Host.Outcome.next.injEq] at h
    exact .inl ⟨s, .zero s, h.symm⟩
  | succ n ih =>
    simp only [sendLoop] at h
    cases hm : sendUniverse args s with
    | fault f => simp [hm] at h
    | failed v =>
      simp only [hm, Host.Outcome.next.injEq] at h
      exact .inr ⟨0, s, v, Nat.succ_pos n, .zero s, hm, h.symm⟩
    | sent u =>
      simp only [hm] at h
      rcases ih h with ⟨w, hw, rfl⟩ | ⟨k, w, v, hk, hw, hf, rfl⟩
      · exact .inl ⟨w, .succ hm hw, rfl⟩
      · exact .inr ⟨k + 1, w, v, Nat.succ_lt_succ hk, .succ hm hw, hf, rfl⟩

/-- How FRAME_SEND can end: by a check, or by its loop. -/
theorem frameSendFor_next {rounds : Nat → Nat} {base : Nat} {s t : State} (h : frameSendFor rounds base s = .next t) :
    (∃ code, s.sendCheck base = some code ∧ t = (s.setPktCount 0).finish code) ∨
    (s.sendCheck base = none ∧
      sendLoop (s.sample base) (rounds s.universes) ((s.setPktCount 0).setLoopIndex (some 0)) = .next t) := by
  unfold frameSendFor at h
  cases hc : s.sendCheck base with
  | some code =>
    simp only [hc, Host.Outcome.next.injEq] at h
    exact .inl ⟨code, rfl, h.symm⟩
  | none =>
    simp only [hc] at h
    exact .inr ⟨rfl, h⟩

/-- The checks all pass exactly when the send is ready. -/
theorem sendCheck_none {s : State} {base : Nat} : s.sendCheck base = none ↔ s.SendReady base := by
  unfold State.sendCheck
  constructor
  · intro h
    split at h
    · cases h
    · split at h
      · cases h
      · split at h
        · cases h
        · exact ⟨by assumption, Nat.le_of_not_lt ‹¬ _ > 65535›, by simpa using ‹¬ _ = false›⟩
  · intro h
    rw [if_neg h.nonempty, if_neg (Nat.not_lt.2 h.inRange), if_neg (by simp [h.session])]

/-- A property that building and handing over a packet keeps, and ending a command keeps, is kept by FRAME_SEND from
its first micro-step on. -/
theorem frameSendFor_keeps {rounds : Nat → Nat} {base : Nat} {s t : State} (P : State → Prop)
    (hstart : P ((s.setPktCount 0).setLoopIndex (some 0))) (hcheck : ∀ code, P ((s.setPktCount 0).finish code))
    (hsent : ∀ u v, P u → sendUniverse (s.sample base) u = .sent v → P v)
    (hfailed : ∀ u v, P u → sendUniverse (s.sample base) u = .failed v → P v)
    (hfinish : ∀ u code, P u → P (u.finish code)) (h : frameSendFor rounds base s = .next t) : P t := by
  have run : ∀ {k u v}, SentRun (s.sample base) k u v → P u → P v := fun r => by
    induction r with
    | zero _ => exact id
    | succ first _ ih => exact fun hu => ih (hsent _ _ hu first)
  rcases frameSendFor_next h with ⟨code, _, rfl⟩ | ⟨_, h⟩
  · exact hcheck code
  · rcases sendLoop_next h with ⟨u, hu, rfl⟩ | ⟨k, u, v, _, hu, hf, rfl⟩
    · exact hfinish _ _ (run hu hstart)
    · exact hfinish _ _ (hfailed _ _ (run hu hstart) hf)

/-- No pass and no end of a send refuses. -/
theorem sendLoop_not_refused (args : SendArgs) (n : Nat) (s : State) (r : Refusal) : sendLoop args n s ≠ .refused r := by
  induction n generalizing s with
  | zero => simp [sendLoop]
  | succ n ih =>
    simp only [sendLoop]
    cases sendUniverse args s <;> simp [ih]

end Sys2Proof.Machine
end

