-- ==== Sys2Proof/Laws/Step.lean ====
section
/-! SUPPORT. What an instruction, a move of the host and a step can do, said once. -/

namespace Sys2Proof.Machine

/-- The next states of the instructions that issue no send. -/
inductive SimpleEffect (s : State) : State → Prop where
  | opened : SimpleEffect s s.afterOpen
  | closed : SimpleEffect s s.afterClose
  | illegal : SimpleEffect s (s.finish .illegal)
  | read (addr : BitVec 8) (r : Register) : SimpleEffect s (s.emit (.busRead addr (s.readValue r)))
  | wrote (d : Word) (r : Register) : SimpleEffect s (s.writeEffect d r)

/-- A command issues a send, or has a simple effect. -/
theorem execCommand_next {i : Instr} {s t : State} (hi : IsCommand i) (h : exec i s = .next t) :
    (∃ base, sendBase i s = some base ∧ frameSend base s = .next t) ∨ (sendBase i s = none ∧ SimpleEffect s t) := by
  cases i with
  | openSession => cases h; exact .inr ⟨rfl, .opened⟩
  | closeSession => cases h; exact .inr ⟨rfl, .closed⟩
  | sendFrame => exact .inl ⟨_, rfl, h⟩
  | encodeSend base => exact .inl ⟨_, rfl, h⟩
  | regRead addr => exact hi.elim
  | regWrite addr d => exact hi.elim

/-- A write to `CMD` issues a send, or has a simple effect (45_register_access.md R270). -/
theorem dispatch_next {w : Word} {s t : State} (h : dispatch w s = .next t) :
    (∃ base, sendBase (.regWrite 0x20 w) s = some base ∧ frameSend base s = .next t) ∨
    (sendBase (.regWrite 0x20 w) s = none ∧ SimpleEffect s t) := by
  unfold dispatch at h
  by_cases h1 : w = 0x00000001
  · subst h1; cases h; exact .inr ⟨rfl, .opened⟩
  by_cases h2 : w = 0x00000002
  · subst h2; cases h; exact .inr ⟨rfl, .closed⟩
  by_cases h3 : w = 0x00000003
  · subst h3; exact .inl ⟨_, rfl, h⟩
  rw [if_neg h1, if_neg h2, if_neg h3] at h
  by_cases h4 : w.extractLsb' 0 16 = 0x0004
  · rw [if_pos h4] at h
    exact .inl ⟨_, by simp only [sendBase, if_true, if_neg h3, if_pos h4], h⟩
  · rw [if_neg h4] at h
    cases h
    exact .inr ⟨by simp only [sendBase, if_true, if_neg h3, if_neg h4], .illegal⟩

/-- An instruction that goes on issues a send, or has a simple effect. -/
theorem exec_next {i : Instr} {s t : State} (h : exec i s = .next t) :
    (∃ base, sendBase i s = some base ∧ frameSend base s = .next t) ∨ (sendBase i s = none ∧ SimpleEffect s t) := by
  cases i with
  | regRead addr =>
    refine .inr ⟨rfl, ?_⟩
    change execRegRead addr s = _ at h
    unfold execRegRead at h
    cases hr : Register.ofAddr addr with
    | none => simp [hr] at h
    | some r => simp only [hr, Host.Outcome.next.injEq] at h; exact h ▸ .read addr r
  | regWrite addr d =>
    change execRegWrite addr d s = _ at h
    unfold execRegWrite at h
    by_cases hc : addr = 0x20
    · subst hc
      exact dispatch_next h
    · have hr : Register.ofAddr addr ≠ some .cmd := by
        have : ∀ a : BitVec 8, a ≠ 0x20 → Register.ofAddr a ≠ some .cmd := by decide
        exact this addr hc
      refine .inr ⟨if_neg hc, ?_⟩
      cases hr' : Register.ofAddr addr with
      | none => simp [hr'] at h
      | some r =>
        rw [hr'] at h
        have : Host.Outcome.next (s.writeEffect d r) = (Host.Outcome.next t : Result) := by
          cases r <;> first | exact h | exact absurd hr' hr
        cases this
        exact .wrote d r
  | openSession => exact execCommand_next trivial h
  | closeSession => exact execCommand_next trivial h
  | sendFrame => exact execCommand_next trivial h
  | encodeSend base => exact execCommand_next trivial h

/-- A property that every simple effect keeps, and that a send keeps, is kept by every instruction. -/
theorem exec_keeps {P : State → State → Prop} (hsimple : ∀ s t, SimpleEffect s t → P s t)
    (hsend : ∀ base s t, frameSend base s = .next t → P s t) {i : Instr} {s t : State} (h : exec i s = .next t) :
    P s t := by
  rcases exec_next h with ⟨base, _, h⟩ | ⟨_, h⟩
  · exact hsend base s t h
  · exact hsimple s t h

/-- What `thenReset` answers. -/
theorem thenReset_next {r : Result} {t : State} (h : thenReset r = .next t) :
    ∃ u, r = .next u ∧ t = u.applyReset := by
  cases r with
  | next u => cases h; exact ⟨u, rfl, rfl⟩
  | fault f => cases h
  | refused r => cases h

/-- A transaction with `RESET` during its command ends in the reset of a state that the transaction, or a send cut
short, leads to. -/
theorem execThenReset_next {i : Instr} {n : Nat} {s t : State} (h : execThenReset i n s = .next t) :
    (∃ base u, sendBase i s = some base ∧ frameSendFor (fun m => min n m) base s = .next u ∧ t = u.applyReset) ∨
    (∃ u, sendBase i s = none ∧ SimpleEffect s u ∧ t = u.applyReset) := by
  unfold execThenReset at h
  cases hb : sendBase i s with
  | some base =>
    simp only [hb] at h
    obtain ⟨u, hu, rfl⟩ := thenReset_next h
    exact .inl ⟨base, u, rfl, hu, rfl⟩
  | none =>
    simp only [hb] at h
    obtain ⟨u, hu, rfl⟩ := thenReset_next h
    rcases exec_next hu with ⟨base, hb', _⟩ | ⟨_, hs⟩
    · simp [hb] at hb'
    · exact .inr ⟨u, rfl, hs, rfl⟩

/-- A step that goes on is idle or takes the host's next move. -/
theorem step_next {s t : State} (h : step s = .next t) :
    s.fault = false ∧ ((s.pending = [] ∧ t = s) ∨
      ∃ m rest, s.pending = m :: rest ∧ takeMove m (s.setPending rest) = .next t) := by
  unfold step stepOf at h
  cases hf : s.fault with
  | true => simp [hf] at h
  | false =>
    rw [hf, if_neg (by decide)] at h
    refine ⟨rfl, ?_⟩
    split at h
    · rename_i hp
      cases h
      exact .inl ⟨hp, rfl⟩
    · rename_i m rest hp
      exact .inr ⟨m, rest, hp, h⟩

/-- The step of a machine that is not faulted and whose host moves. -/
theorem step_move {s : State} {m : HostMove} {rest : List HostMove} (hf : s.fault = false)
    (hp : s.pending = m :: rest) : step s = takeMove m (s.setPending rest) := by
  simp [step, stepOf, hf, hp]

end Sys2Proof.Machine
end

