-- ==== Sys2Proof/Tests/Slice0.lean ====
section
/-! SUPPORT. Tests against the spec's own vectors (95_test_vectors.md), and a witness for every statement that has
hypotheses. -/

namespace Sys2Proof.Machine

/-! ## States to test with -/

/-- The parameters the spec's vectors use (95_test_vectors.md, Conventions). -/
def testParams : Params where
  artnetName := #v[0x41, 0x72, 0x74, 0x2D, 0x4E, 0x65, 0x74]
  cid := #v[0x10, 0x11, 0x12, 0x13, 0x14, 0x15, 0x16, 0x17, 0x18, 0x19, 0x1A, 0x1B, 0x1C, 0x1D, 0x1E, 0x1F]
  sourceName := [0x4E, 0x46, 0x43]
  rootPrefix := #v[0x00, 0x10, 0x00, 0x00, 0x41, 0x53, 0x43, 0x2D, 0x45, 0x31, 0x2E, 0x31, 0x37, 0x00, 0x00, 0x00]
  flagNibble := 0x7
  seqAdvanceOnFail := true

/-- The state after reset with those parameters. -/
def testState : State := { State.reset with params := testParams }

/-- A frame of one byte 0xAB and an open session. -/
def readyState (proto : Protocol) (answers : List Answer) : State :=
  { testState with session := true, proto := proto, frameLen := 1, frame := [(0, 0xAB)], answers := answers }

/-- The next state, if there is one. -/
def nextOf : Result → Option State
  | .next s => some s
  | .fault _ => none
  | .refused _ => none

/-- Result code, `PKT_COUNT`, `SEQ` and `SESSION` after an instruction. -/
def after (i : Instr) (s : State) : Option (ResultCode × Word × Byte × Bool) :=
  (nextOf (exec i s)).map fun t => (t.result, t.pktCount, t.seq, t.session)

/-- The word of `STATUS` after an instruction. -/
def statusAfter (i : Instr) (s : State) : Option Word := (nextOf (exec i s)).map State.statusWord

/-- What a register reads after a write of another or the same one. -/
def readAfterWrite (r : Register) (d : Word) (s : State) : Option Word :=
  (nextOf (exec (.regWrite r.addr d) s)).map fun t => t.readValue r

theorem testState_inv : testState.Inv where
  params := by decide
  poolA := by decide
  poolE := by decide
  frame := by decide
  pktCount := by decide
  idle := rfl
  unfaulted := rfl

theorem readyState_inv (proto : Protocol) (answers : List Answer) : (readyState proto answers).Inv where
  params := by change paramsWf testParams; decide
  poolA := by change poolAWf testParams []; decide
  poolE := by change poolEWf testParams []; decide
  frame := by change Memory.wf [(0, 0xAB)]; decide
  pktCount := by change (0 : Word).toNat ≤ 65536; decide
  idle := rfl
  unfaulted := rfl

theorem readyState_universes (proto : Protocol) (answers : List Answer) : (readyState proto answers).universes = 1 := by
  change chunkCount (1 : Word).toNat = 1
  decide

theorem readyState_ready (proto : Protocol) (answers : List Answer) (base : Nat) (h : base ≤ 65535) :
    (readyState proto answers).SendReady base where
  nonempty := by change (1 : Word).toNat ≠ 0; decide
  inRange := by rw [readyState_universes]; omega
  session := rfl

/-- An instruction that answers a next state, from its test. -/
theorem exists_next_of_map {α : Type} {f : State → α} {v : α} :
    ∀ {r : Result}, (nextOf r).map f = some v → ∃ t, r = .next t ∧ f t = v
  | .next t, h => ⟨t, rfl, Option.some.inj h⟩
  | .fault _, h => nomatch h
  | .refused _, h => nomatch h

theorem readyState_frameDefined (proto : Protocol) (answers : List Answer) :
    (readyState proto answers).FrameDefined := by
  intro a h
  have : a < 1 := h
  obtain rfl : a = 0 := by omega
  rfl

/-! ## Well-formedness and decoding -/

theorem test_wellFormed_base_top : (Instr.encodeSend 65535).wellFormed = true := by decide

theorem test_illFormed_base_over : (Instr.encodeSend 65536).wellFormed = false := by decide

/-- 30_encoding.md R92, OP 0x01. -/
theorem test_decode_open : decode [0x01, 0x00, 0x00, 0x00] = .ok .openSession := by decide

/-- 30_encoding.md R92, OP 0x02. -/
theorem test_decode_close : decode [0x02, 0x00, 0x00, 0x00] = .ok .closeSession := by decide

/-- 30_encoding.md R92, OP 0x03. -/
theorem test_decode_sendFrame : decode [0x03, 0x00, 0x00, 0x00] = .ok .sendFrame := by decide

/-- V-R4: 0x12340004. -/
theorem test_decode_encodeSend : decode [0x04, 0x00, 0x34, 0x12] = .ok (.encodeSend 0x1234) := by decide

/-- V-R1: `RD SEQ` is 0x018_0000_0000; data bits of a read are ignored (R90). -/
theorem test_decode_regRead : decode [0xFF, 0xFF, 0xFF, 0xFF, 0x18, 0x00] = .ok (.regRead 0x18) := by decide

/-- V-R2: `WR DEST, 0xC0A80164` is 0x110_C0A8_0164. -/
theorem test_decode_regWrite : decode [0x64, 0x01, 0xA8, 0xC0, 0x10, 0x01] = .ok (.regWrite 0x10 0xC0A80164) := by
  decide

/-- V-R4: the illegal words. -/
theorem test_decode_illegal :
    decodeCmd 0x00000000 = .error (.illegalOpcode 0x00) ∧ decodeCmd 0x00000005 = .error (.illegalOpcode 0x05) ∧
    decodeCmd 0x000000FF = .error (.illegalOpcode 0xFF) ∧ decodeCmd 0x00010003 = .error (.argumentNotZero 1) ∧
    decodeCmd 0x00020001 = .error (.argumentNotZero 2) ∧ decodeCmd 0x00000104 = .error (.reservedNotZero 1) ∧
    decodeCmd 0xFFFFFF04 = .error (.reservedNotZero 0xFF) := by decide

theorem test_decode_bad_bytes :
    decode [0x00, 0x00, 0x00, 0x00, 0x00, 0x02] = .error .notATransaction ∧ decode [0x01] = .error (.badLength 1) := by
  decide

theorem test_decodeTableWord :
    decodeTableWord 32 0x00000003 = some .sendFrame ∧ decodeTableWord 48 0x12000000003 = some (.regWrite 0x20 3) := by
  decide

/-- A placed command word is the first instruction the machine runs. -/
theorem test_withFetchWord_open : step (State.reset.withFetchWord 32 1) = exec .openSession State.reset := rfl

theorem test_withFetchWord_regWrite :
    step (State.reset.withFetchWord 48 0x10C0001FFFF) = exec (.regWrite 0x0C 0x0001FFFF) State.reset := rfl

/-! ## The wire -/

/-- V-A1, u = 0x1234. -/
theorem test_artnetHeader :
    artnetHeader testParams 0x1234 =
      [0x41, 0x72, 0x74, 0x2D, 0x4E, 0x65, 0x74, 0x00, 0x00, 0x50, 0x00, 0x0E, 0x00, 0x00, 0x34, 0x12, 0x02, 0x00] := by
  decide

/-- V-E1. -/
theorem test_e131Header :
    e131Header testParams 1 1 =
      [0x00, 0x10, 0x00, 0x00, 0x41, 0x53, 0x43, 0x2D, 0x45, 0x31, 0x2E, 0x31, 0x37, 0x00, 0x00, 0x00,
        0x72, 0x6E, 0x00, 0x00, 0x00, 0x04, 0x10, 0x11, 0x12, 0x13, 0x14, 0x15, 0x16, 0x17, 0x18, 0x19,
        0x1A, 0x1B, 0x1C, 0x1D, 0x1E, 0x1F, 0x72, 0x58, 0x00, 0x00, 0x00, 0x02, 0x4E, 0x46, 0x43] ++ zeros 64 ++
      [0x01, 0x00, 0x00, 0x01, 0x72, 0x0B, 0x02, 0xA1, 0x00, 0x00, 0x00, 0x01, 0x02, 0x01, 0x01] := by
  decide

/-- V-E3 with a flag nibble of 0. -/
theorem test_flagsLength :
    flagsLength { testParams with flagNibble := 0 } 16 = [0x02, 0x6E] ∧ flagsLength testParams 115 = [0x72, 0x0B] := by
  decide

/-- V-C1. -/
theorem test_chunkCount :
    chunkCount 1 = 1 ∧ chunkCount 512 = 1 ∧ chunkCount 513 = 2 ∧ chunkCount 33554433 = 65537 ∧
      chunkCount 0xFFFFFFFF = 8388608 := by decide

/-- V-C1, V-C2: L = 1000. -/
theorem test_chunks_1000 : (chunkStart 1, chunkLength 1000 0, chunkLength 1000 1, chunkUniverse 5 1) = (512, 512, 488, 6) := by
  decide

/-! ## Instructions -/

/-- V-O: `OPEN` with the answers ok and fail. -/
theorem test_open :
    statusAfter .openSession { testState with answers := [.ok] } = some 0x00000001 ∧
    statusAfter .openSession { testState with answers := [.fail] } = some 0x00000030 := by decide

/-- V-O: `OPEN` with a session open is not asked of the transport. -/
theorem test_open_twice : statusAfter .openSession (readyState .artnet []) = some 0x00000011 := by decide

/-- V-O: `CLOSE`. -/
theorem test_close :
    statusAfter .closeSession (readyState .artnet []) = some 0 ∧ statusAfter .closeSession testState = some 0 := by decide

/-- V-S1: the rows that send nothing. -/
theorem test_send_precedence :
    statusAfter .sendFrame testState = some 0x00000020 ∧
    statusAfter .sendFrame { testState with artnetStart := 65535, session := true } = some 0x00000021 ∧
    statusAfter .sendFrame { testState with frameLen := 600, artnetStart := 65535 } = some 0x00000040 ∧
    statusAfter .sendFrame { testState with frameLen := 600 } = some 0x00000010 := by decide

set_option maxRecDepth 4000 in
/-- V-A2 with universe 7, as a whole datagram. -/
theorem test_encodeSend_artnet :
    (nextOf (exec (.encodeSend 7) (readyState .artnet [.ok]))).map State.obs =
      some [.transportSend ⟨artnetHeader testParams 7 ++ [0xAB] ++ zeros 511, 0, 6454⟩] := by decide

/-- V-E6, first command, under both parameter values: the result, the count, `SEQ`. -/
theorem test_send_e131_fails :
    after .sendFrame (readyState .e131 [.fail]) = some (.transport, 0, 2, true) ∧
    after .sendFrame { readyState .e131 [.fail] with params := { testParams with seqAdvanceOnFail := false } } =
      some (.transport, 0, 1, true) := by decide

/-- V-E4: `SEQ` wraps. -/
theorem test_send_e131_wraps :
    after (.encodeSend 65535) { readyState .e131 [.ok] with seq := 255 } = some (.ok, 1, 0, true) := by decide

/-- V-R1: reads after reset. -/
theorem test_reads_after_reset :
    testState.readValue .e131Start = 1 ∧ testState.readValue .seq = 1 ∧ testState.readValue .status = 0 := by decide

/-- V-R3: bus faults, read and write. -/
theorem test_busFault :
    nextOf (exec (.regRead 0x21) testState) = none ∧ nextOf (exec (.regWrite 0x13 0) testState) = none := ⟨rfl, rfl⟩

/-- V-R2: reserved bits. -/
theorem test_write_reserved_bits :
    readAfterWrite .ctrl 0xFFFFFFFF testState = some 1 ∧ readAfterWrite .artnetStart 0xABCD0005 testState = some 5 ∧
    readAfterWrite .e131Start 0x0001FFFF testState = some 0xFFFF := by decide

/-- V-R2: read-only registers. -/
theorem test_write_read_only :
    readAfterWrite .status 0xFFFFFFFF testState = some 0 ∧ readAfterWrite .seq 0x55 testState = some 1 ∧
    readAfterWrite .pktCount 7 testState = some 0 := by decide

/-- P5, lines 1 to 4: `ILLEGAL`, also with an empty frame. -/
theorem test_write_illegal : statusAfter (.regWrite 0x20 0x00000104) testState = some 0x00000050 := by decide

/-- V-R5: reset with a session open. -/
theorem test_reset :
    (nextOf (step { readyState .e131 [] with seq := 8, pending := [.reset] })).map
      (fun t => (t.obs, t.seq, t.session, t.proto)) = some ([.transportClose], 1, false, .artnet) := by decide

/-- P1, lines 1 to 4, as text. -/
theorem test_assembler :
    assembleProgram "DEST 192.168.1.100\nLEN 1000 ; bytes\n\nWR CMD, 0x1\nSEND_FRAME" =
      some [.bus 0x110C0A80164, .bus 0x114000003E8, .bus 0x12000000001, .bus 0x12000000003] := by decide

/-! ## Witnesses: the hypotheses of each statement can be met -/

theorem witness_roundTrip : (Instr.encodeSend 65535).WellFormed := Nat.le_refl _

theorem witness_illegalWords :
    (∃ e, decodeCmd 0x00000500 = .error e) ∧ (∃ e, decodeCmd 0x00010002 = .error e) ∧ ∃ e, decodeCmd 0xFFFF0005 = .error e :=
  ⟨⟨_, rfl⟩, ⟨_, rfl⟩, ⟨_, rfl⟩⟩

theorem witness_mnemonics : (65535 : Nat) ≤ 65535 ∧ (65535 : Nat) < 65536 := by decide

theorem witness_pseudoInstructions :
    ((255 : Nat) ≤ 255 ∧ (0 : Nat) ≤ 255) ∧ (255 : Nat) < 256 ∧ (4294967295 : Nat) < 2 ^ 32 ∧ (65535 : Nat) < 65536 := by
  decide

theorem witness_stepRuns :
    ({ testState with pending := [.bus 0x01800000000] } : State).pending = .bus 0x01800000000 :: [] ∧
    ({ testState with pending := [.bus (writeCmdWord 0xFFFF0004)] } : State).pending =
      .bus (writeCmdWord 0xFFFF0004) :: [] ∧
    decodeCmd 0xFFFF0004 = .ok (.encodeSend 65535) ∧ testState.fault = false := ⟨rfl, rfl, by decide, rfl⟩

theorem witness_idle : testState.fault = false ∧ testState.pending = [] := ⟨rfl, rfl⟩

theorem witness_faultMark :
    ({ testState with fault := true } : State).fault = true ∧ step testState = .next testState := ⟨rfl, rfl⟩

theorem witness_place :
    testState.fault = false ∧ ∃ s : State, s = { testState with pending := [.place 0xFFFFFFFF 0x5A] } ∧
      s.pending = .place 0xFFFFFFFF 0x5A :: [] ∧ s.fault = false := ⟨rfl, _, rfl, rfl, rfl⟩

theorem witness_reset :
    ({ readyState .artnet [] with pending := [.reset] } : State).pending = .reset :: [] ∧
    ({ readyState .artnet [] with pending := [.reset] } : State).fault = false := ⟨rfl, rfl⟩

/-- A send of one universe with `RESET` after its datagram, and before it. -/
theorem witness_resetDuringSend (n : Nat) :
    ∃ s : State, s.pending = .busReset 0x12000000003 n :: [] ∧ s.Inv ∧
      sendBase (decodeBus 0x12000000003) s = some 0 ∧ s.SendReady 0 ∧ s.FrameDefined ∧
      ∀ k, k < min n s.universes → s.answerAt k = .ok := by
  have hr := readyState_ready .artnet [.ok] 0 (by decide)
  refine ⟨{ readyState .artnet [.ok] with pending := [.busReset 0x12000000003 n] }, rfl, ?_, rfl,
    ⟨hr.nonempty, hr.inRange, hr.session⟩, readyState_frameDefined .artnet [.ok], ?_⟩
  · have h := readyState_inv .artnet [.ok]
    exact ⟨h.params, h.poolA, h.poolE, h.frame, h.pktCount, h.idle, h.unfaulted⟩
  · intro k hk
    have h1 : k < (readyState .artnet [.ok]).universes := Nat.lt_of_lt_of_le hk (Nat.min_le_right _ _)
    rw [readyState_universes] at h1
    obtain rfl : k = 0 := by omega
    rfl

theorem witness_readBack : Register.ctrl ≠ .cmd ∧ ∃ t, exec (.regWrite Register.ctrl.addr 0xFFFFFFFF) testState = .next t :=
  ⟨by decide, _, rfl⟩

theorem witness_sessionCloses :
    (readyState .artnet []).session = true ∧
    ∃ t, step { readyState .artnet [] with pending := [.bus 0x12000000002] } = .next t ∧ t.session = false :=
  ⟨rfl, _, rfl, rfl⟩

theorem witness_sendsFrom :
    SendsFrom .sendFrame testState 0 ∧ SendsFrom (.encodeSend 65535) testState 65535 := ⟨.inl ⟨rfl, rfl⟩, .inr rfl⟩

theorem witness_validation : SendsFrom (.encodeSend 65535) testState 65535 ∧ testState.frameLen = 0 := ⟨.inr rfl, rfl⟩

/-- V-S2: 513 bytes at base 65535. -/
theorem witness_range :
    ∃ s : State, s = { testState with frameLen := 513 } ∧ s.frameLen ≠ 0 ∧ 65535 < 65535 + (s.frameLen.toNat + 511) / 512 - 1 :=
  ⟨_, rfl, by decide, by decide⟩

theorem witness_usage :
    ∃ s : State, s = { testState with frameLen := 512 } ∧ s.frameLen ≠ 0 ∧
      65535 + (s.frameLen.toNat + 511) / 512 - 1 ≤ 65535 ∧ s.session = false :=
  ⟨_, rfl, by decide, by decide, rfl⟩

/-- The hypotheses of the statements about a send that is ready, at the top universe: every answer ok. -/
theorem witness_successfulSend (proto : Protocol) :
    let s := readyState proto [.ok]
    SendsFrom (.encodeSend 65535) s 65535 ∧ s.Inv ∧ s.SendReady 65535 ∧ s.FrameDefined ∧
      ∀ k, k < s.universes → s.answerAt k = .ok := by
  refine ⟨.inr rfl, readyState_inv _ _, readyState_ready _ _ _ (by decide), readyState_frameDefined _ _, ?_⟩
  intro k hk
  rw [readyState_universes] at hk
  obtain rfl : k = 0 := by omega
  rfl

/-- The same with the first send failing. -/
theorem witness_failedSend (proto : Protocol) :
    let s := readyState proto [.fail]
    SendsFrom .sendFrame s s.startUniverse ∧ s.Inv ∧ s.SendReady s.startUniverse ∧ s.FrameDefined ∧ 0 < s.universes ∧
      (∀ j, j < 0 → s.answerAt j = .ok) ∧ s.answerAt 0 = .fail := by
  refine ⟨.inl ⟨rfl, rfl⟩, readyState_inv _ _, readyState_ready _ _ _ ?_, readyState_frameDefined _ _,
    by rw [readyState_universes]; decide, fun j h => absurd h (Nat.not_lt_zero j), rfl⟩
  cases proto <;> decide

/-- A frame memory whose first `n` bytes are 0xAB; irreducible, so that no proof lists them. -/
@[irreducible] def uniformFrame (n : Nat) : Memory := (List.range n).map fun a => (a, 0xAB)

theorem uniformFrame_wf {n : Nat} (h : n ≤ 2 ^ 32) : (uniformFrame n).wf := by
  refine ⟨by simp [uniformFrame, CellsSorted, Function.comp_def, List.pairwise_lt_range], fun c hc => ?_⟩
  rw [uniformFrame] at hc
  obtain ⟨a, ha, rfl⟩ := List.mem_map.1 hc
  exact Nat.lt_of_lt_of_le (List.mem_range.1 ha) h

theorem uniformFrame_defined {n a : Nat} (hn : n ≤ 2 ^ 32) (h : a < n) : ((uniformFrame n).read a).isSome := by
  have hm : (a, (0xAB : Byte)) ∈ uniformFrame n := by
    rw [uniformFrame]
    exact List.mem_map.2 ⟨a, List.mem_range.2 h, rfl⟩
  rw [Memory.read, readCell_of_mem (uniformFrame_wf hn).1 hm]
  rfl

/-- A frame of two universes, its second of one byte. -/
def twoUniverses (proto : Protocol) (answers : List Answer) : State :=
  { readyState proto answers with frameLen := 513, frame := uniformFrame 513 }

theorem twoUniverses_frame (proto : Protocol) (answers : List Answer) :
    (twoUniverses proto answers).frame = uniformFrame 513 := rfl

theorem twoUniverses_inv (proto : Protocol) (answers : List Answer) : (twoUniverses proto answers).Inv := by
  have h := readyState_inv proto answers
  refine ⟨h.params, h.poolA, h.poolE, ?_, h.pktCount, h.idle, h.unfaulted⟩
  rw [twoUniverses_frame]
  exact uniformFrame_wf (by omega)

theorem twoUniverses_universes (proto : Protocol) (answers : List Answer) :
    (twoUniverses proto answers).universes = 2 := by
  change chunkCount (513 : Word).toNat = 2
  decide

/-- The second of two sends fails, at the top two universes. -/
theorem witness_laterSendFails (proto : Protocol) :
    let s := twoUniverses proto [.ok, .fail]
    SendsFrom (.encodeSend 65534) s 65534 ∧ s.Inv ∧ s.SendReady 65534 ∧ s.FrameDefined ∧ 1 < s.universes ∧
      (∀ j, j < 1 → s.answerAt j = .ok) ∧ s.answerAt 1 = .fail := by
  refine ⟨.inr rfl, twoUniverses_inv _ _, ⟨?_, by rw [twoUniverses_universes], rfl⟩, fun a h => ?_,
    by rw [twoUniverses_universes]; decide, fun j hj => ?_, rfl⟩
  · change (513 : Word).toNat ≠ 0
    decide
  · have h : a < (513 : Word).toNat := h
    rw [twoUniverses_frame]
    exact uniformFrame_defined (by omega) (by simpa using h)
  · obtain rfl : j = 0 := by omega
    rfl

/-- The same with the frame's one byte not defined. -/
theorem witness_undefinedByte :
    ∃ s : State, s = { readyState .artnet [] with frame := [] } ∧ s.Inv ∧ s.SendReady 0 ∧ 0 < s.frameLen.toNat ∧
      s.frame.read 0 = none ∧ (∀ b, b < 0 → (s.frame.read b).isSome) ∧ ∀ k, k < 0 / 512 → s.answerAt k = .ok := by
  refine ⟨_, rfl, ?_, ⟨by decide, by decide, rfl⟩, by decide, rfl, fun b h => absurd h (Nat.not_lt_zero b),
    fun k h => absurd h (Nat.not_lt_zero k)⟩
  have h := readyState_inv .artnet []
  exact ⟨h.params, h.poolA, h.poolE, ⟨by decide, by decide⟩, h.pktCount, h.idle, h.unfaulted⟩

set_option maxRecDepth 4000 in
/-- A send that goes on, under each protocol: for the statements about what a send leaves. -/
theorem witness_sendGoesOn (proto : Protocol) :
    ∃ t, exec .sendFrame (readyState proto [.ok]) = .next t ∧ t.result = .ok := by
  cases proto <;> exact exists_next_of_map (f := State.result) (by decide)

set_option maxRecDepth 4000 in
/-- Commands that end with `USAGE`, `VALIDATION`, `RANGE`, and an `OPEN` that ends with `TRANSPORT`. -/
theorem witness_errors :
    (∃ t, exec .openSession (readyState .artnet []) = .next t ∧ t.result = .usage) ∧
    (∃ t, exec .sendFrame testState = .next t ∧ t.result = .validation) ∧
    (∃ t, exec (.encodeSend 65535) { testState with frameLen := 513 } = .next t ∧ t.result = .range) ∧
    (∃ t, exec .openSession { testState with answers := [.fail] } = .next t ∧ t.result = .transport) ∧
    (∃ t, exec .sendFrame (readyState .artnet [.fail]) = .next t ∧ t.result = .transport) :=
  ⟨⟨_, rfl, rfl⟩, ⟨_, rfl, rfl⟩, ⟨_, rfl, rfl⟩, ⟨_, rfl, rfl⟩,
    exists_next_of_map (f := State.result) (by decide)⟩

set_option maxRecDepth 4000 in
/-- A step from a state that meets the invariant. -/
theorem witness_invariant :
    (readyState .e131 [.ok]).Inv ∧
      ∃ t, step ((readyState .e131 [.ok]).withFetchWord 32 3) = .next t ∧ t.result = .ok :=
  ⟨readyState_inv _ _, exists_next_of_map (f := State.result) (by decide)⟩

/-- A pool entry that a send finds. -/
theorem witness_poolEntry :
    ∃ s : State, s = { testState with poolA := [(7, artnetHeader testParams 7 ++ zeros 512)] } ∧
      (s.poolA.get 7).isSome ∧ ∃ t, exec .closeSession s = .next t := ⟨_, rfl, rfl, _, rfl⟩

theorem witness_noSend : sendBase (.regRead 0x1C) testState = none ∧ ∃ t, exec (.regRead 0x1C) testState = .next t :=
  ⟨rfl, _, rfl⟩

/-- A machine whose host issues `SEND_FRAME` with an E1.31 frame ready. -/
def sendingState : State := { readyState .e131 [.ok] with pending := [.bus 0x12000000003] }

theorem sendingState_inv : sendingState.Inv := by
  have h := readyState_inv .e131 [.ok]
  exact ⟨h.params, h.poolA, h.poolE, h.frame, h.pktCount, h.idle, h.unfaulted⟩

set_option maxRecDepth 4000 in
/-- V-E1 with a payload: what one step observes. -/
theorem sendingState_obs :
    ∃ t, step sendingState = .next t ∧
      t.obs = [.transportSend ⟨e131Header testParams 1 1 ++ [0xAB] ++ zeros 511, 0, 5568⟩] :=
  exists_next_of_map (f := State.obs) (by decide)

/-- A step that hands over a datagram. -/
theorem witness_datagram :
    ∃ s t new d, s.Inv ∧ step s = .next t ∧ t.obs = s.obs ++ new ∧ .transportSend d ∈ new :=
  let ⟨t, h, ho⟩ := sendingState_obs
  ⟨sendingState, t, _, _, sendingState_inv, h, ho, List.mem_cons_self⟩

/-- A run of one step that sends an E1.31 packet. -/
theorem witness_sequenceLaw :
    ∃ s t : State, s.Inv ∧ s.params.seqAdvanceOnFail = true ∧
      (∀ m ∈ s.pending, (∃ w, m = .bus w) ∨ ∃ a v, m = .place a v) ∧ stepMany 1 s = .next t ∧ e131Sends t.obs = 1 := by
  obtain ⟨t, h, ho⟩ := sendingState_obs
  refine ⟨sendingState, t, sendingState_inv, rfl, fun m hm => .inl ⟨_, List.mem_singleton.1 hm⟩, ?_, ?_⟩
  · simp [stepMany, h]
  · rw [ho]
    rfl

/-- The header statements hold for every flag nibble: here the largest. -/
theorem witness_headers : (65535 : Nat) ≤ 65535 ∧ paramsWf { testParams with flagNibble := 0xF } := by decide

theorem witness_chunks : (0 : Nat) < chunkCount 513 ∧ 0 + 1 < chunkCount 513 ∧ (512 : Nat) < 513 := by decide

end Sys2Proof.Machine
end

/-! Proofs about the step: the history it keeps (00_scope.md R6, R9) and the command a bus word runs
(00_scope.md R7; 45_register_access.md R270). -/

namespace Sys2Proof.Machine

/-! ## The parameters and the observation -/

/-- `t` has the parameters of `s`, and has observed what `s` has, in the same order, and perhaps more. -/
structure KeepsHistory (s t : State) : Prop where
  params : t.params = s.params
  obs : s.obs <+: t.obs

theorem KeepsHistory.of_same {s t : State} (hp : t.params = s.params) (ho : t.obs = s.obs) : KeepsHistory s t :=
  ⟨hp, ho ▸ List.prefix_rfl⟩

theorem KeepsHistory.of_emitted {s t : State} {e : Event} (hp : t.params = s.params) (ho : t.obs = s.obs ++ [e]) :
    KeepsHistory s t :=
  ⟨hp, ho ▸ List.prefix_append ..⟩

theorem KeepsHistory.trans {s t u : State} (h : KeepsHistory s t) (g : KeepsHistory t u) : KeepsHistory s u :=
  ⟨g.params.trans h.params, h.obs.trans g.obs⟩

theorem afterOpen_keepsHistory (s : State) : KeepsHistory s s.afterOpen := by
  unfold State.afterOpen
  split
  · exact .of_same rfl rfl
  · cases s.answer <;> exact .of_emitted (e := .transportOpen) rfl rfl

theorem afterClose_keepsHistory (s : State) : KeepsHistory s s.afterClose := by
  unfold State.afterClose
  split
  · exact .of_emitted (e := .transportClose) rfl rfl
  · exact .of_same rfl rfl

theorem writeEffect_keepsHistory (s : State) (d : Word) (r : Register) : KeepsHistory s (s.writeEffect d r) := by
  cases r <;> exact .of_same rfl rfl

theorem SimpleEffect.keepsHistory {s t : State} (h : SimpleEffect s t) : KeepsHistory s t := by
  cases h with
  | opened => exact afterOpen_keepsHistory s
  | closed => exact afterClose_keepsHistory s
  | illegal => exact .of_same rfl rfl
  | read addr r => exact .of_emitted rfl rfl
  | wrote d r => exact writeEffect_keepsHistory s d r

theorem State.handed_obs (args : SendArgs) (chunk : Bytes) (s : State) :
    (s.handed args chunk).obs = s.obs ++ [.transportSend ⟨(s.built args chunk).1, args.dest, args.proto.port⟩] := by
  simp [State.handed, State.built]

theorem handed_keepsHistory (args : SendArgs) (chunk : Bytes) (s : State) : KeepsHistory s (s.handed args chunk) :=
  .of_emitted (handed_keeps args chunk s).params (s.handed_obs args chunk)

theorem sendUniverse_sent_keepsHistory {args : SendArgs} {s t : State} (h : sendUniverse args s = .sent t) :
    KeepsHistory s t := by
  obtain ⟨chunk, _, _, rfl⟩ := sendUniverse_sent h
  exact (handed_keepsHistory args chunk s).trans (.of_same (by simp) (by simp))

theorem sendUniverse_failed_keepsHistory {args : SendArgs} {s t : State} (h : sendUniverse args s = .failed t) :
    KeepsHistory s t := by
  obtain ⟨chunk, _, _, rfl⟩ := sendUniverse_failed h
  exact handed_keepsHistory args chunk s

/-- A send keeps the history, whether it runs to its end or is cut short. -/
theorem frameSendFor_keepsHistory {rounds : Nat → Nat} {base : Nat} {s t : State}
    (h : frameSendFor rounds base s = .next t) : KeepsHistory s t :=
  frameSendFor_keeps (KeepsHistory s)
    (hstart := .of_same rfl rfl)
    (hcheck := fun _ => .of_same rfl rfl)
    (hsent := fun _ _ hu hsent => hu.trans (sendUniverse_sent_keepsHistory hsent))
    (hfailed := fun _ _ hu hfailed => hu.trans (sendUniverse_failed_keepsHistory hfailed))
    (hfinish := fun _ _ hu => hu.trans (.of_same rfl rfl)) h

theorem exec_keepsHistory {i : Instr} {s t : State} (h : exec i s = .next t) : KeepsHistory s t :=
  exec_keeps (fun _ _ hs => hs.keepsHistory) (fun _ _ _ hs => frameSendFor_keepsHistory hs) h

/-- Reset observes at most the closing of the session (70_reset_and_hazards.md R332). -/
theorem applyReset_keepsHistory (s : State) : KeepsHistory s s.applyReset := by
  cases hs : s.session with
  | true => exact .of_emitted (e := .transportClose) rfl (by simp [hs])
  | false => exact .of_same rfl (by simp [hs])

theorem execThenReset_keepsHistory {i : Instr} {n : Nat} {s t : State} (h : execThenReset i n s = .next t) :
    KeepsHistory s t := by
  rcases execThenReset_next h with ⟨base, u, _, hu, rfl⟩ | ⟨u, _, hu, rfl⟩
  · exact (frameSendFor_keepsHistory hu).trans (applyReset_keepsHistory u)
  · exact hu.keepsHistory.trans (applyReset_keepsHistory u)

theorem takeMove_keepsHistory {m : HostMove} {s t : State} (h : takeMove m s = .next t) : KeepsHistory s t := by
  cases m with
  | bus w => exact exec_keepsHistory h
  | place addr value => cases h; exact .of_same rfl rfl
  | reset => cases h; exact applyReset_keepsHistory s
  | busReset w after => exact execThenReset_keepsHistory h

theorem step_keepsHistory {s t : State} (h : step s = .next t) : KeepsHistory s t := by
  obtain ⟨_, ⟨_, rfl⟩ | ⟨m, rest, _, hm⟩⟩ := step_next h
  · exact .of_same rfl rfl
  · have hp : KeepsHistory s (s.setPending rest) := .of_same rfl rfl
    exact hp.trans (takeMove_keepsHistory hm)

/-- Settles O36: every move of the host keeps the history, of which the parameters are a part. -/
theorem parametersNeverChange : Obligations.ParametersNeverChange := fun _ _ h =>
  (step_keepsHistory h).params

/-- Settles O40: every move of the host keeps the history, of which the observation is a part. -/
theorem observationOnlyGrows : Obligations.ObservationOnlyGrows := fun _ _ h => by
  obtain ⟨new, hnew⟩ := (step_keepsHistory h).obs
  exact ⟨new, hnew.symm⟩

/-! ## The command a bus word runs -/

/-- A word is its three fields `OP`, `RSV` and `ARG` (30_encoding.md R91). -/
theorem commandWord_toNat (w : Word) :
    w.toNat = (w.extractLsb' 0 8).toNat + 256 * (w.extractLsb' 8 8).toNat + 65536 * (w.extractLsb' 16 16).toNat := by
  simp only [BitVec.extractLsb'_toNat, Nat.shiftRight_eq_div_pow]
  omega

theorem commandWord_low {w : Word} (hrsv : w.extractLsb' 8 8 = 0) :
    w.extractLsb' 0 16 = (w.extractLsb' 0 8).setWidth 16 := by
  have hw := commandWord_toNat w
  have h0 : (w.extractLsb' 8 8).toNat = 0 := congrArg BitVec.toNat hrsv
  apply BitVec.eq_of_toNat_eq
  rw [BitVec.toNat_setWidth, BitVec.extractLsb'_toNat 0 16 w, Nat.shiftRight_zero]
  omega

theorem commandWord_eq {w : Word} (hrsv : w.extractLsb' 8 8 = 0) (harg : w.extractLsb' 16 16 = 0) :
    w = (w.extractLsb' 0 8).setWidth 32 := by
  have hw := commandWord_toNat w
  have h0 : (w.extractLsb' 8 8).toNat = 0 := congrArg BitVec.toNat hrsv
  have h1 : (w.extractLsb' 16 16).toNat = 0 := congrArg BitVec.toNat harg
  apply BitVec.eq_of_toNat_eq
  rw [BitVec.toNat_setWidth]
  omega

/-- The words that decode to a command, and the command each decodes to (30_encoding.md R92, R93). -/
theorem decodeCmd_ok {w : Word} {i : Instr} (h : decodeCmd w = .ok i) :
    (w = 0x00000001 ∧ i = .openSession) ∨ (w = 0x00000002 ∧ i = .closeSession) ∨ (w = 0x00000003 ∧ i = .sendFrame) ∨
      (w.extractLsb' 0 16 = 0x0004 ∧ i = .encodeSend (w.extractLsb' 16 16).toNat) := by
  unfold decodeCmd at h
  extract_lets op rsv arg at h
  split_ifs at h with hop hrsv h4 harg h1 h2
  all_goals cases h
  · have hlow : w.extractLsb' 0 16 = op.setWidth 16 := commandWord_low (not_not.1 hrsv)
    exact .inr (.inr (.inr ⟨by rw [hlow, h4]; rfl, rfl⟩))
  all_goals have hw : w = op.setWidth 32 := commandWord_eq (not_not.1 hrsv) (not_not.1 harg)
  · exact .inl ⟨by rw [hw, h1]; rfl, rfl⟩
  · exact .inr (.inl ⟨by rw [hw, h2]; rfl, rfl⟩)
  · have h3 : op = 0x03 := by bv_omega
    exact .inr (.inr (.inl ⟨by rw [hw, h3]; rfl, rfl⟩))

/-- The dispatch of a command word runs the command the word decodes to (45_register_access.md R270). -/
theorem dispatch_of_decodeCmd {w : Word} {i : Instr} (h : decodeCmd w = .ok i) (s : State) :
    dispatch w s = exec i s := by
  rcases decodeCmd_ok h with ⟨rfl, rfl⟩ | ⟨rfl, rfl⟩ | ⟨rfl, rfl⟩ | ⟨hlow, rfl⟩
  · rfl
  · rfl
  · rfl
  · have hne : w ≠ 0x00000001 ∧ w ≠ 0x00000002 ∧ w ≠ 0x00000003 := by
      refine ⟨?_, ?_, ?_⟩ <;> rintro rfl <;> exact absurd hlow (by decide)
    obtain ⟨h1, h2, h3⟩ := hne
    unfold dispatch
    rw [if_neg h1, if_neg h2, if_neg h3, if_pos hlow]
    rfl

/-- The bus word that writes a command word to `CMD` decodes to that write (30_encoding.md R90, R142). -/
theorem decodeBus_writeCmdWord (w : Word) : decodeBus (writeCmdWord w) = .regWrite 0x20 w := by
  have hw : (writeCmdWord w).toNat = 2 ^ 40 + 32 * 2 ^ 32 + w.toNat := by
    change (2 ^ 40 + 32 * 2 ^ 32 + w.toNat) % 2 ^ 41 = _
    omega
  have hwrite : (writeCmdWord w).getLsbD 40 = true := by
    rw [BitVec.getLsbD, Nat.testBit_eq_decide_div_mod_eq, hw]
    exact decide_eq_true (by omega)
  have haddr : (writeCmdWord w).extractLsb' 32 8 = 0x20 := by
    apply BitVec.eq_of_toNat_eq
    rw [BitVec.extractLsb'_toNat, Nat.shiftRight_eq_div_pow, hw]
    change _ = 32
    omega
  have hdata : (writeCmdWord w).extractLsb' 0 32 = w := by
    apply BitVec.eq_of_toNat_eq
    rw [BitVec.extractLsb'_toNat, Nat.shiftRight_eq_div_pow, hw]
    omega
  simp only [decodeBus, hwrite, haddr, hdata, if_true]

/-- Settles O8: the step takes the move, and a write to `CMD` dispatches the command its data decodes to. -/
theorem stepRunsTheDecodedTransaction : Obligations.StepRunsTheDecodedTransaction := by
  intro s rest hf
  refine ⟨fun w hp => step_move hf hp, fun w i hp hi => ?_⟩
  calc step s = exec (decodeBus (writeCmdWord w)) (s.setPending rest) := step_move hf hp
    _ = dispatch w (s.setPending rest) := by rw [decodeBus_writeCmdWord]; rfl
    _ = exec i (s.setPending rest) := dispatch_of_decodeCmd hi _

end Sys2Proof.Machine

/-! Proofs about the block's state: what each instruction leaves of it, and the invariant that every step keeps
(10_state.md). -/

namespace Sys2Proof.Machine

/-! ## What an instruction that issues no send leaves -/

/-- `t` has the parameters, the pools, `PKT_COUNT`, `FAULT`, the frame memory and the moves to come of `s`, and runs
no command if `s` runs none. -/
structure SimpleKeeps (s t : State) : Prop where
  params : t.params = s.params
  poolA : t.poolA = s.poolA
  poolE : t.poolE = s.poolE
  pktCount : t.pktCount = s.pktCount
  fault : t.fault = s.fault
  frame : t.frame = s.frame
  pending : t.pending = s.pending
  idle : s.loopIndex = none → t.loopIndex = none

theorem afterOpen_simpleKeeps (s : State) : SimpleKeeps s s.afterOpen := by
  unfold State.afterOpen
  split
  · exact ⟨rfl, rfl, rfl, rfl, rfl, rfl, rfl, fun _ => rfl⟩
  · cases s.answer <;> exact ⟨rfl, rfl, rfl, rfl, rfl, rfl, rfl, fun _ => rfl⟩

theorem afterClose_simpleKeeps (s : State) : SimpleKeeps s s.afterClose := by
  unfold State.afterClose
  split <;> exact ⟨rfl, rfl, rfl, rfl, rfl, rfl, rfl, fun _ => rfl⟩

theorem writeEffect_simpleKeeps (s : State) (d : Word) (r : Register) : SimpleKeeps s (s.writeEffect d r) := by
  cases r <;> exact ⟨rfl, rfl, rfl, rfl, rfl, rfl, rfl, id⟩

theorem SimpleEffect.keeps {s t : State} (h : SimpleEffect s t) : SimpleKeeps s t := by
  cases h with
  | opened => exact afterOpen_simpleKeeps s
  | closed => exact afterClose_simpleKeeps s
  | illegal => exact ⟨rfl, rfl, rfl, rfl, rfl, rfl, rfl, fun _ => rfl⟩
  | read addr r => exact ⟨rfl, rfl, rfl, rfl, rfl, rfl, rfl, id⟩
  | wrote d r => exact writeEffect_simpleKeeps s d r

/-! ## What a send leaves -/

theorem finish_keeps (s : State) (code : ResultCode) : PassKeeps s (s.finish code) :=
  ⟨rfl, rfl, rfl, rfl, rfl, rfl, rfl, rfl, rfl, rfl⟩

/-- What a pass of the loop leaves, the whole send leaves. -/
theorem frameSendFor_passKeeps {rounds : Nat → Nat} {base : Nat} {s t : State}
    (h : frameSendFor rounds base s = .next t) : PassKeeps s t :=
  frameSendFor_keeps (PassKeeps s)
    (hstart := ⟨rfl, rfl, rfl, rfl, rfl, rfl, rfl, rfl, rfl, rfl⟩)
    (hcheck := fun _ => ⟨rfl, rfl, rfl, rfl, rfl, rfl, rfl, rfl, rfl, rfl⟩)
    (hsent := fun _ _ hu hsent => hu.trans (sendUniverse_sent_keeps hsent))
    (hfailed := fun _ _ hu hfailed => hu.trans (sendUniverse_failed_keeps hfailed))
    (hfinish := fun u code hu => hu.trans (finish_keeps u code)) h

theorem State.handed_poolA (args : SendArgs) (chunk : Bytes) (s : State) :
    (s.handed args chunk).poolA =
      if args.proto = .artnet then s.poolA.put (chunkUniverse args.base s.index) (s.built args chunk).1
      else s.poolA := by
  simp [State.handed, State.built]

theorem State.handed_poolE (args : SendArgs) (chunk : Bytes) (s : State) :
    (s.handed args chunk).poolE =
      if args.proto = .e131 then s.poolE.put (chunkUniverse args.base s.index) (s.built args chunk).1
      else s.poolE := by
  simp [State.handed, State.built]

@[simp] theorem State.handed_params (args : SendArgs) (chunk : Bytes) (s : State) :
    (s.handed args chunk).params = s.params := (handed_keeps args chunk s).params

@[simp] theorem State.handed_pktCount (args : SendArgs) (chunk : Bytes) (s : State) :
    (s.handed args chunk).pktCount = s.pktCount := by
  simp [State.handed, State.built]

@[simp] theorem State.handed_index (args : SendArgs) (chunk : Bytes) (s : State) :
    (s.handed args chunk).index = s.index := by
  simp [State.index, State.handed, State.built]

@[simp] theorem State.afterOk_index (s : State) (args : SendArgs) (i : Nat) : (s.afterOk args i).index = i + 1 := rfl

/-- Hoare's rule for the universe loop: `P` holds before every pass, of which the loop makes none at an index past
`bound`, and gives `Q` where the loop ends. -/
theorem sendLoop_of_invariant {args : SendArgs} {bound : Nat} {P Q : State → Prop}
    (hok : ∀ u chunk, P u → u.index < bound → P ((u.handed args chunk).afterOk args u.index))
    (hfail : ∀ u chunk, P u → u.index < bound → Q ((u.handed args chunk).finish .transport))
    (hdone : ∀ u, P u → u.index ≤ bound → Q (u.finish .ok)) {n : Nat} {s t : State}
    (hs : P s) (hn : s.index + n ≤ bound) (h : sendLoop args n s = .next t) : Q t := by
  induction n generalizing s with
  | zero => cases h; exact hdone s hs hn
  | succ n ih =>
    have hlt : s.index < bound := by omega
    simp only [sendLoop] at h
    cases hp : sendUniverse args s with
    | fault f => simp [hp] at h
    | failed v =>
      obtain ⟨chunk, _, _, rfl⟩ := sendUniverse_failed hp
      simp only [hp, Host.Outcome.next.injEq] at h
      exact h ▸ hfail s chunk hs hlt
    | sent v =>
      obtain ⟨chunk, _, _, rfl⟩ := sendUniverse_sent hp
      simp only [hp] at h
      exact ih (hok s chunk hs hlt) (by rw [State.afterOk_index]; omega) h

/-- The same rule for FRAME_SEND: its checks pass or give `Q` at once, and no pass is made for a universe past the
frame's, also where RESET cuts the loop short. -/
theorem frameSendFor_of_invariant {rounds : Nat → Nat} {base : Nat} {s t : State} {P Q : State → Prop}
    (hrounds : ∀ n, rounds n ≤ n)
    (hcheck : ∀ code, Q ((s.setPktCount 0).finish code))
    (hstart : P ((s.setPktCount 0).setLoopIndex (some 0)))
    (hok : ∀ u chunk, s.SendReady base → P u → u.index < s.universes →
      P ((u.handed (s.sample base) chunk).afterOk (s.sample base) u.index))
    (hfail : ∀ u chunk, s.SendReady base → P u → u.index < s.universes →
      Q ((u.handed (s.sample base) chunk).finish .transport))
    (hdone : ∀ u, s.SendReady base → P u → u.index ≤ s.universes → Q (u.finish .ok))
    (h : frameSendFor rounds base s = .next t) : Q t := by
  rcases frameSendFor_next h with ⟨code, _, rfl⟩ | ⟨hnone, h⟩
  · exact hcheck code
  · have hready := sendCheck_none.1 hnone
    refine sendLoop_of_invariant (hok · · hready) (hfail · · hready) (hdone · hready) hstart ?_ h
    exact (Nat.zero_add _).trans_le (hrounds _)

/-- The pools of `s` and `t` agree at every universe below `lo` and from `hi` up. -/
def PoolsAgreeOutside (lo hi : Nat) (s t : State) : Prop :=
  ∀ u, u < lo ∨ hi ≤ u → t.poolA.get u = s.poolA.get u ∧ t.poolE.get u = s.poolE.get u

/-- Handing over a packet leaves every pool entry but its universe's. -/
theorem State.handed_pools_get_other (args : SendArgs) (chunk : Bytes) (s : State) {u : Nat}
    (h : u ≠ args.base + s.index) :
    (s.handed args chunk).poolA.get u = s.poolA.get u ∧ (s.handed args chunk).poolE.get u = s.poolE.get u := by
  rw [State.handed_poolA, State.handed_poolE]
  cases args.proto
  · exact ⟨Pool.get_put_other _ _ h, rfl⟩
  · exact ⟨rfl, Pool.get_put_other _ _ h⟩

theorem PoolsAgreeOutside.handed {args : SendArgs} {n : Nat} {s u : State} (chunk : Bytes)
    (h : PoolsAgreeOutside args.base (args.base + n) s u) (hi : u.index < n) :
    PoolsAgreeOutside args.base (args.base + n) s (u.handed args chunk) := fun v hv => by
  have hne : v ≠ args.base + u.index := by omega
  obtain ⟨hA, hE⟩ := u.handed_pools_get_other args chunk hne
  obtain ⟨hA', hE'⟩ := h v hv
  exact ⟨hA.trans hA', hE.trans hE'⟩

/-- A send changes the pools at the frame's universes only. -/
theorem frameSend_poolsAgreeOutside {base : Nat} {s t : State} (h : frameSend base s = .next t) :
    PoolsAgreeOutside base (base + s.universes) s t :=
  frameSendFor_of_invariant (P := PoolsAgreeOutside base (base + s.universes) s)
    (hrounds := fun _ => Nat.le_refl _)
    (hcheck := fun _ _ _ => ⟨rfl, rfl⟩)
    (hstart := fun _ _ => ⟨rfl, rfl⟩)
    (hok := fun u chunk _ hu hi v hv => by
      simpa using PoolsAgreeOutside.handed (args := s.sample base) chunk hu hi v hv)
    (hfail := fun u chunk _ hu hi => PoolsAgreeOutside.handed (args := s.sample base) chunk hu hi)
    (hdone := fun _ _ hu _ => hu) h

theorem SendsFrom.exec_eq {i : Instr} {s : State} {base : Nat} (h : SendsFrom i s base) :
    exec i s = frameSend base s := by
  rcases h with ⟨rfl, rfl⟩ | rfl <;> rfl

/-- Settles O30: the frame of the passes, and the pools by the loop's range of universes. -/
theorem sendLeavesTheRestUnchanged : Obligations.SendLeavesTheRestUnchanged := by
  intro s t i base hi h
  rw [hi.exec_eq] at h
  have hk := frameSendFor_passKeeps h
  exact ⟨hk.params, hk.proto, hk.artnetStart, hk.e131Start, hk.dest, hk.frameLen, hk.session, hk.pending, hk.fault,
    fun a => by rw [hk.frame], frameSend_poolsAgreeOutside h⟩

/-! ## The invariant -/

/-- The invariant before a pass of the universe loop: that of the machine but for the loop index, with `PKT_COUNT` at
most the passes made. -/
structure State.LoopInv (s : State) : Prop where
  params : paramsWf s.params
  poolA : poolAWf s.params s.poolA
  poolE : poolEWf s.params s.poolE
  frame : s.frame.wf
  counted : s.pktCount.toNat ≤ s.index
  unfaulted : s.fault = false

theorem State.LoopInv.built_packet {args : SendArgs} {s : State} (h : s.LoopInv) (chunk : Bytes) :
    (s.built args chunk).1 =
      header s.params args.proto (args.base + s.index) s.seq ++ payload chunk :=
  encodePacket_packet h.poolA h.poolE ..

/-- Handing over the packet of a universe in range keeps both pools as R36 says, and all else. -/
theorem State.LoopInv.handed {args : SendArgs} {s : State} (h : s.LoopInv) (chunk : Bytes)
    (hu : args.base + s.index ≤ 65535) : (s.handed args chunk).LoopInv := by
  have hk := handed_keeps args chunk s
  refine ⟨hk.params ▸ h.params, ?_, ?_, hk.frame ▸ h.frame, by simpa using h.counted, hk.fault ▸ h.unfaulted⟩
  · rw [State.handed_params, State.handed_poolA, h.built_packet]
    cases args.proto
    · exact poolAWf_put h.poolA hu (payload_length chunk)
    · exact h.poolA
  · rw [State.handed_params, State.handed_poolE, h.built_packet]
    cases args.proto
    · exact h.poolE
    · exact poolEWf_put h.poolE hu (payload_length chunk)

theorem State.LoopInv.afterOk {s : State} (h : s.LoopInv) (args : SendArgs) : (s.afterOk args s.index).LoopInv := by
  have hk := afterOk_keeps args s s.index
  refine ⟨hk.params ▸ h.params, by simpa using h.poolA, by simpa using h.poolE, hk.frame ▸ h.frame, ?_,
    hk.fault ▸ h.unfaulted⟩
  have hcount := h.counted
  rw [State.afterOk_pktCount, State.afterOk_index, BitVec.toNat_add]
  exact (Nat.mod_le _ _).trans (Nat.succ_le_succ hcount)

/-- A send that ends within its range of universes meets the invariant again. -/
theorem State.LoopInv.finish {s : State} (h : s.LoopInv) (code : ResultCode) (hi : s.index ≤ 65536) :
    (s.finish code).Inv :=
  ⟨h.params, h.poolA, h.poolE, h.frame, h.counted.trans hi, rfl, h.unfaulted⟩

theorem State.Inv.finish_zeroCount {s : State} (h : s.Inv) (code : ResultCode) : ((s.setPktCount 0).finish code).Inv :=
  ⟨h.params, h.poolA, h.poolE, h.frame, Nat.zero_le _, rfl, h.unfaulted⟩

theorem State.Inv.start {s : State} (h : s.Inv) : ((s.setPktCount 0).setLoopIndex (some 0)).LoopInv :=
  ⟨h.params, h.poolA, h.poolE, h.frame, Nat.le_refl _, h.unfaulted⟩

/-- A send that is ready sends no universe past 65535. -/
theorem State.SendReady.universe_le {s : State} {base i : Nat} (h : s.SendReady base) (hi : i < s.universes) :
    base + i ≤ 65535 := by
  have hrange := h.inRange
  omega

theorem State.SendReady.universes_le {s : State} {base : Nat} (h : s.SendReady base) : s.universes ≤ 65536 := by
  have hrange := h.inRange
  omega

/-- A send keeps the invariant: the range check bounds each universe, and so the number of them. -/
theorem State.Inv.of_frameSendFor {rounds : Nat → Nat} {base : Nat} {s t : State} (hs : s.Inv)
    (hrounds : ∀ n, rounds n ≤ n) (h : frameSendFor rounds base s = .next t) : t.Inv := by
  refine frameSendFor_of_invariant (P := State.LoopInv) hrounds hs.finish_zeroCount hs.start ?hok ?hfail ?hdone h
  case hok =>
    intro u chunk hready hu hi
    simpa using (hu.handed (args := s.sample base) chunk (hready.universe_le hi)).afterOk (s.sample base)
  case hfail =>
    intro u chunk hready hu hi
    have hcount : u.index ≤ 65536 := (Nat.le_of_lt hi).trans hready.universes_le
    exact (hu.handed (args := s.sample base) chunk (hready.universe_le hi)).finish _ (by simpa using hcount)
  case hdone =>
    exact fun u hready hu hi => hu.finish _ (hi.trans hready.universes_le)

theorem State.Inv.of_simpleKeeps {s t : State} (hs : s.Inv) (h : SimpleKeeps s t) : t.Inv where
  params := h.params ▸ hs.params
  poolA := by rw [h.params, h.poolA]; exact hs.poolA
  poolE := by rw [h.params, h.poolE]; exact hs.poolE
  frame := h.frame ▸ hs.frame
  pktCount := h.pktCount ▸ hs.pktCount
  idle := h.idle hs.idle
  unfaulted := h.fault.trans hs.unfaulted

theorem State.Inv.of_exec {i : Instr} {s t : State} (hs : s.Inv) (h : exec i s = .next t) : t.Inv := by
  rcases exec_next h with ⟨base, _, h⟩ | ⟨_, h⟩
  · exact hs.of_frameSendFor (fun _ => Nat.le_refl _) h
  · exact hs.of_simpleKeeps h.keeps

/-- Reset empties the pools and leaves what is not the block's (70_reset_and_hazards.md R331). -/
theorem State.Inv.applyReset {s : State} (hs : s.Inv) : s.applyReset.Inv where
  params := hs.params
  poolA := ⟨.nil, fun _ h => nomatch h⟩
  poolE := ⟨.nil, fun _ h => nomatch h⟩
  frame := hs.frame
  pktCount := Nat.zero_le _
  idle := rfl
  unfaulted := hs.unfaulted

theorem State.Inv.of_execThenReset {i : Instr} {n : Nat} {s t : State} (hs : s.Inv)
    (h : execThenReset i n s = .next t) : t.Inv := by
  rcases execThenReset_next h with ⟨base, u, _, hu, rfl⟩ | ⟨u, _, hu, rfl⟩
  · exact (hs.of_frameSendFor (fun m => Nat.min_le_right n m) hu).applyReset
  · exact (hs.of_simpleKeeps hu.keeps).applyReset

theorem State.Inv.setPending {s : State} (hs : s.Inv) (moves : List HostMove) : (s.setPending moves).Inv :=
  ⟨hs.params, hs.poolA, hs.poolE, hs.frame, hs.pktCount, hs.idle, hs.unfaulted⟩

theorem State.Inv.setFrame_write {s : State} (hs : s.Inv) (addr : Word) (value : Byte) :
    (s.setFrame (s.frame.write addr value)).Inv :=
  ⟨hs.params, hs.poolA, hs.poolE, Memory.write_wf addr value hs.frame, hs.pktCount, hs.idle, hs.unfaulted⟩

theorem State.Inv.of_takeMove {m : HostMove} {s t : State} (hs : s.Inv) (h : takeMove m s = .next t) : t.Inv := by
  cases m with
  | bus w => exact hs.of_exec h
  | place addr value => cases h; exact hs.setFrame_write addr value
  | reset => cases h; exact hs.applyReset
  | busReset w after => exact hs.of_execThenReset h

/-- Settles O35: an idle step changes nothing, and every move of the host keeps the invariant. -/
theorem everyStepKeepsTheInvariant : Obligations.EveryStepKeepsTheInvariant := by
  intro s t hs h
  obtain ⟨_, ⟨_, rfl⟩ | ⟨m, rest, _, hm⟩⟩ := step_next h
  · exact hs
  · exact (hs.setPending rest).of_takeMove hm

/-! ## The fault mark -/

theorem exec_fault {i : Instr} {s t : State} (h : exec i s = .next t) : t.fault = s.fault :=
  exec_keeps (P := fun s t => t.fault = s.fault) (fun _ _ hs => hs.keeps.fault)
    (fun _ _ _ hs => (frameSendFor_passKeeps hs).fault) h

theorem execThenReset_fault {i : Instr} {n : Nat} {s t : State} (h : execThenReset i n s = .next t) :
    t.fault = s.fault := by
  rcases execThenReset_next h with ⟨base, u, _, hu, rfl⟩ | ⟨u, _, hu, rfl⟩
  · exact (frameSendFor_passKeeps hu).fault
  · exact hu.keeps.fault

/-- No move of the host changes the fault mark, reset among them (10_state.md R39). -/
theorem takeMove_fault {m : HostMove} {s t : State} (h : takeMove m s = .next t) : t.fault = s.fault := by
  cases m with
  | bus w => exact exec_fault h
  | place addr value => cases h; rfl
  | reset => cases h; rfl
  | busReset w after => exact execThenReset_fault h

theorem step_faulted {s : State} (h : s.fault = true) : step s = .fault .halted := by
  simp [step, stepOf, h]

/-- Settles O11: a faulted state halts, and from a clear mark no move leads to a set one. -/
theorem faultMarkStopsTheMachine : Obligations.FaultMarkStopsTheMachine := by
  refine ⟨fun _ => step_faulted, fun s t h => ?_⟩
  obtain ⟨hclear, ⟨_, rfl⟩ | ⟨m, rest, _, hm⟩⟩ := step_next h
  · exact ⟨hclear, hclear⟩
  · exact ⟨hclear, (takeMove_fault hm).trans hclear⟩

/-! ## The pools only grow -/

/-- Every universe with a buffer in a pool of `s` has one in that pool of `t`. -/
structure PoolsGrow (s t : State) : Prop where
  poolA : ∀ u, (s.poolA.get u).isSome → (t.poolA.get u).isSome
  poolE : ∀ u, (s.poolE.get u).isSome → (t.poolE.get u).isSome

theorem PoolsGrow.of_same {s t : State} (hA : t.poolA = s.poolA) (hE : t.poolE = s.poolE) : PoolsGrow s t :=
  ⟨fun _ h => hA ▸ h, fun _ h => hE ▸ h⟩

theorem PoolsGrow.trans {s t u : State} (h : PoolsGrow s t) (g : PoolsGrow t u) : PoolsGrow s u :=
  ⟨fun v hv => g.poolA v (h.poolA v hv), fun v hv => g.poolE v (h.poolE v hv)⟩

theorem Pool.isSome_get_put (p : Pool) (u : Nat) (buf : Bytes) {v : Nat} (h : (p.get v).isSome) :
    ((p.put u buf).get v).isSome := by
  by_cases hv : v = u
  · rw [hv, Pool.get_put_same]; rfl
  · rwa [Pool.get_put_other p buf hv]

theorem handed_poolsGrow (args : SendArgs) (chunk : Bytes) (s : State) : PoolsGrow s (s.handed args chunk) := by
  constructor
  · intro u hu
    rw [State.handed_poolA]
    split
    · exact Pool.isSome_get_put _ _ _ hu
    · exact hu
  · intro u hu
    rw [State.handed_poolE]
    split
    · exact Pool.isSome_get_put _ _ _ hu
    · exact hu

theorem afterOk_poolsGrow (args : SendArgs) (i : Nat) (s : State) : PoolsGrow s (s.afterOk args i) :=
  .of_same (s.afterOk_poolA args i) (s.afterOk_poolE args i)

theorem frameSendFor_poolsGrow {rounds : Nat → Nat} {base : Nat} {s t : State}
    (h : frameSendFor rounds base s = .next t) : PoolsGrow s t := by
  refine frameSendFor_keeps (PoolsGrow s) (.of_same rfl rfl) (fun _ => .of_same rfl rfl) ?hsent ?hfailed
    (fun _ _ hu => hu.trans (.of_same rfl rfl)) h
  case hsent =>
    intro u v hu hsent
    obtain ⟨chunk, _, _, rfl⟩ := sendUniverse_sent hsent
    exact hu.trans ((handed_poolsGrow _ chunk u).trans (afterOk_poolsGrow ..))
  case hfailed =>
    intro u v hu hfailed
    obtain ⟨chunk, _, _, rfl⟩ := sendUniverse_failed hfailed
    exact hu.trans (handed_poolsGrow _ chunk u)

theorem exec_poolsGrow {i : Instr} {s t : State} (h : exec i s = .next t) : PoolsGrow s t :=
  exec_keeps (fun _ _ hs => .of_same hs.keeps.poolA hs.keeps.poolE) (fun _ _ _ hs => frameSendFor_poolsGrow hs) h

/-- Settles O38: a send only puts buffers, and no other instruction touches a pool. -/
theorem poolEntriesAreNeverRemoved : Obligations.PoolEntriesAreNeverRemoved := fun _ _ _ u h =>
  ⟨(exec_poolsGrow h).poolA u, (exec_poolsGrow h).poolE u⟩

/-! ## `PKT_COUNT` -/

/-- Settles O39: an instruction that issues no send has a simple effect, which keeps `PKT_COUNT`. -/
theorem onlySendsChangePacketCount : Obligations.OnlySendsChangePacketCount := by
  intro s t i hnone h
  rcases exec_next h with ⟨base, hbase, _⟩ | ⟨_, hs⟩
  · simp [hnone] at hbase
  · exact hs.keeps.pktCount

/-! ## Reading a register back -/

/-- A write to a register other than `CMD` has that register's effect (45_register_access.md R268). -/
theorem exec_regWrite_addr {r : Register} (h : r ≠ .cmd) (d : Word) (s : State) :
    exec (.regWrite r.addr d) s = .next (s.writeEffect d r) := by
  cases r
  case cmd => exact absurd rfl h
  all_goals rfl

theorem protocolBit_ofBit (b : Bool) : (Protocol.ofBit b).bit = BitVec.ofBool b := by
  cases b <;> rfl

/-- `CTRL` holds bit 0 of the word written to it (10_state.md R24). -/
theorem ctrlWord_setProto_ofBit (s : State) (d : Word) :
    (s.setProto (Protocol.ofBit (d.getLsbD 0))).ctrlWord = d &&& 0x00000001 := by
  rw [State.ctrlWord, State.setProto_proto, protocolBit_ofBit]
  exact BitVec.and_one_eq_setWidth_ofBool_getLsbD.symm

/-- The low half of a word, as a register shows it: the word less its upper 16 bits (10_state.md R26, R27). -/
theorem setWidth_extractLow (d : Word) : (d.extractLsb' 0 16).setWidth 32 = d &&& 0x0000FFFF := by
  apply BitVec.eq_of_toNat_eq
  have hmask : d.toNat &&& 0xFFFF = d.toNat % 2 ^ 16 := Nat.and_two_pow_sub_one_eq_mod d.toNat 16
  rw [BitVec.toNat_and, BitVec.toNat_setWidth, BitVec.extractLsb'_toNat, Nat.shiftRight_zero]
  exact (Nat.mod_eq_of_lt (by omega)).trans hmask.symm

/-- Settles O19: the write has its register's effect, which each register then shows. -/
theorem writtenRegisterReadsBackItsNamedBits : Obligations.WrittenRegisterReadsBackItsNamedBits := by
  intro s t r d hr h
  rw [exec_regWrite_addr hr] at h
  cases h
  cases r with
  | ctrl => exact ctrlWord_setProto_ofBit s d
  | artnetStart => exact setWidth_extractLow d
  | e131Start => exact setWidth_extractLow d
  | dest => rfl
  | frameLen => rfl
  | status => rfl
  | seq => rfl
  | pktCount => rfl
  | cmd => exact absurd rfl hr

end Sys2Proof.Machine

/-! Proofs about the memory: the host places frame bytes, the block only reads them, and a send stops at the first one
the host has not defined (20_memory.md). -/

namespace Sys2Proof.Machine

/-! ## Who writes the frame memory -/

/-- Settles O12: the step takes the move, which writes one cell of the frame memory. -/
theorem placedFrameByteIsDefined : Obligations.PlacedFrameByteIsDefined := by
  intro s rest addr value hf hp
  exact ⟨_, step_move hf hp, Memory.read_write_same s.frame addr value,
    fun a ha => Memory.read_write_other s.frame value ha, rfl⟩

/-- Settles O37: neither a simple effect nor a send touches the frame memory or the host's moves. -/
theorem blockNeverWritesTheFrame : Obligations.BlockNeverWritesTheFrame := by
  intro s t i h
  have hkeeps : t.frame = s.frame ∧ t.pending = s.pending :=
    exec_keeps (P := fun s t => t.frame = s.frame ∧ t.pending = s.pending)
      (fun _ _ hs => ⟨hs.keeps.frame, hs.keeps.pending⟩)
      (fun _ _ _ hs => ⟨(frameSendFor_passKeeps hs).frame, (frameSendFor_passKeeps hs).pending⟩) h
  obtain ⟨hframe, hpending⟩ := hkeeps
  exact ⟨fun a => by rw [hframe], hpending⟩

/-! ## What the chunks of the frame hold -/

/-- The host has defined every byte of chunk `i` of the current frame (40_chunker.md R151; 20_memory.md R61). -/
def State.ChunkDefined (s : State) (i : Nat) : Prop :=
  ∀ j, j < chunkLength s.frameLen.toNat i → (s.frame.read (chunkStart i + j)).isSome

theorem State.chunkDefined_of_below {s : State} {a i : Nat} (h : ∀ b, b < a → (s.frame.read b).isSome)
    (hi : i < a / 512) : s.ChunkDefined i := fun j hj => h _ (by
  unfold chunkLength at hj
  unfold chunkStart at hj ⊢
  omega)

theorem State.chunk_congr {s t : State} (h : t.frame = s.frame) (len i : Nat) : t.chunk len i = s.chunk len i := by
  rw [State.chunk, State.chunk, h]

/-- A chunk the host has defined is read, and padded to its universe's payload. -/
theorem State.ChunkDefined.chunk_eq {s : State} {i : Nat} (h : s.ChunkDefined i) :
    ∃ chunk, s.chunk s.frameLen.toNat i = .ok chunk ∧ payload chunk = s.framePayload i :=
  ⟨_, Memory.readRun_ok _ _ _ h, payload_chunk _ i fun a => (s.frame.read a).getD 0⟩

/-- Reading the chunk of the first undefined frame byte stops at that byte. -/
theorem State.chunk_error {s : State} {a : Nat} (ha : a < s.frameLen.toNat) (hnone : s.frame.read a = none)
    (hbelow : ∀ b, b < a → (s.frame.read b).isSome) : s.chunk s.frameLen.toNat (a / 512) = .error a := by
  have hstart : chunkStart (a / 512) + a % 512 = a := Nat.div_add_mod' a 512
  have hlength : a % 512 < chunkLength s.frameLen.toNat (a / 512) := by
    unfold chunkLength chunkStart
    omega
  have hrun := Memory.readRun_error s.frame _ (chunkStart (a / 512)) (a % 512) hlength (by rwa [hstart])
    (fun j hj => hbelow _ (by omega))
  rwa [hstart] at hrun

/-! ## A send up to the universe of an undefined byte -/

theorem State.frameSends_succ (s : State) (base k : Nat) :
    s.frameSends base (k + 1) = s.frameSends base k ++ [.transportSend (s.frameDatagram base k)] := by
  simp [State.frameSends, List.range_succ]

/-- `u` is the state of a send that began in `s`, after the passes of its first `k` universes, all answered `ok`
(43_frame_send.md R222, R226). -/
structure State.SentUpTo (s : State) (base k : Nat) (u : State) : Prop where
  inv : u.LoopInv
  keeps : PassKeeps s u
  index : u.index = k
  seq : u.seq = if s.proto = .e131 then s.seq + BitVec.ofNat 8 k else s.seq
  obs : u.obs = s.obs ++ s.frameSends base k

theorem State.Inv.sentUpTo_zero {s : State} (h : s.Inv) (base : Nat) :
    s.SentUpTo base 0 ((s.setPktCount 0).setLoopIndex (some 0)) where
  inv := h.start
  keeps := ⟨rfl, rfl, rfl, rfl, rfl, rfl, rfl, rfl, rfl, rfl⟩
  index := rfl
  seq := by simp
  obs := by simp [State.frameSends]

/-- `SEQ` enters the header of an E1.31 packet only (41_artnet_encoder.md R174). -/
theorem header_seq (p : Params) (proto : Protocol) (u : Nat) (q r : Byte) :
    header p proto u (if proto = .e131 then q else r) = header p proto u q := by
  cases proto <;> rfl

theorem State.handed_seq (args : SendArgs) (chunk : Bytes) (s : State) :
    (s.handed args chunk).seq =
      if args.proto = .e131 ∧ s.params.seqAdvanceOnFail = true then s.seq + 1 else s.seq := by
  simp [State.handed, State.built]

/-- A pass answered `ok` advances `SEQ` once under E1.31, at the building of the packet or after its answer
(42_e131_encoder.md R192, R197). -/
theorem State.handed_afterOk_seq (args : SendArgs) (chunk : Bytes) (s : State) (i : Nat) :
    ((s.handed args chunk).afterOk args i).seq = if args.proto = .e131 then s.seq + 1 else s.seq := by
  rw [State.afterOk_seq, State.handed_params, State.handed_seq]
  cases args.proto
  · rfl
  · cases s.params.seqAdvanceOnFail <;> rfl

/-- The packet that the next pass builds is the frame's next datagram. -/
theorem State.SentUpTo.built_packet {s u : State} {base k : Nat} {chunk : Bytes} (h : s.SentUpTo base k u)
    (hpay : payload chunk = s.framePayload k) :
    (u.built (s.sample base) chunk).1 = (s.frameDatagram base k).bytes := by
  rw [h.inv.built_packet, h.index, h.keeps.params, h.seq, hpay]
  simp only [State.sample, State.frameDatagram, header_seq]

/-- The pass of a defined chunk that is answered `ok` hands over the next datagram. -/
theorem State.SentUpTo.pass {s u : State} {base k : Nat} (h : s.SentUpTo base k u) (hready : s.SendReady base)
    (hk : k < s.universes) (hdef : s.ChunkDefined k) (hok : u.answer = .ok) :
    ∃ v, sendUniverse (s.sample base) u = .sent v ∧ s.SentUpTo base (k + 1) v := by
  obtain ⟨chunk, hchunk, hpay⟩ := hdef.chunk_eq
  have hread : u.chunk s.frameLen.toNat u.index = .ok chunk := by
    rw [h.index, State.chunk_congr h.keeps.frame, hchunk]
  refine ⟨(u.handed (s.sample base) chunk).afterOk (s.sample base) u.index, ?_, ?inv, ?keeps, ?index, ?seq, ?obs⟩
  · rw [sendUniverse_eq hread, hok]
  case inv =>
    have hu : base + u.index ≤ 65535 := h.index ▸ hready.universe_le hk
    simpa using (h.inv.handed (args := s.sample base) chunk hu).afterOk (s.sample base)
  case keeps => exact (h.keeps.trans (handed_keeps ..)).trans (afterOk_keeps ..)
  case index => rw [State.afterOk_index, h.index]
  case seq =>
    rw [State.handed_afterOk_seq, h.seq]
    change (if s.proto = .e131 then _ else _) = _
    split <;> simp [BitVec.ofNat_add, BitVec.add_assoc]
  case obs =>
    rw [State.afterOk_obs, State.handed_obs, h.built_packet hpay, h.obs, State.frameSends_succ, List.append_assoc]
    rfl

/-- While chunks are defined and answers are `ok`, the loop of a send that is ready goes on, universe by universe. -/
theorem State.Inv.sentRun {s : State} {base : Nat} (hs : s.Inv) (hready : s.SendReady base) {k : Nat}
    (hk : k ≤ s.universes) (hdef : ∀ j, j < k → s.ChunkDefined j) (hok : ∀ j, j < k → s.answerAt j = .ok) :
    ∃ u, SentRun (s.sample base) k ((s.setPktCount 0).setLoopIndex (some 0)) u ∧ s.SentUpTo base k u := by
  induction k with
  | zero => exact ⟨_, .zero _, hs.sentUpTo_zero base⟩
  | succ k ih =>
    obtain ⟨u, hrun, hsent⟩ := ih (Nat.le_of_succ_le hk) (fun j hj => hdef j (Nat.lt_succ_of_lt hj))
      (fun j hj => hok j (Nat.lt_succ_of_lt hj))
    have hanswer : u.answer = .ok := (hrun.answers.2 0).trans (hok k (Nat.lt_succ_self k))
    obtain ⟨v, hpass, hv⟩ := hsent.pass hready hk (hdef k (Nat.lt_succ_self k)) hanswer
    exact ⟨v, hrun.snoc hpass, hv⟩

theorem frameSendFor_of_ready {s : State} {base : Nat} (h : s.SendReady base) (rounds : Nat → Nat) :
    frameSendFor rounds base s =
      sendLoop (s.sample base) (rounds s.universes) ((s.setPktCount 0).setLoopIndex (some 0)) := by
  rw [frameSendFor, sendCheck_none.2 h]

/-- The loop stops at a pass whose chunk has an undefined byte (20_memory.md R61). -/
theorem sendLoop_fault {args : SendArgs} {s : State} {a : Nat} (h : s.chunk args.len s.index = .error a) (n : Nat) :
    sendLoop args (n + 1) s = .fault (.frameFault a s.obs) := by
  simp only [sendLoop, sendUniverse, h]

/-- A byte of the frame lies in the chunk of one of its universes (40_chunker.md R153). -/
theorem State.div_lt_universes {s : State} {a : Nat} (h : a < s.frameLen.toNat) : a / 512 < s.universes := by
  unfold State.universes chunkCount
  omega

/-- Settles O28: the universes below the undefined byte's are sent one by one, and the next pass faults at the byte. -/
theorem undefinedFrameByteFaults : Obligations.UndefinedFrameByteFaults := by
  intro s i base a hi hs hready ha hnone hbelow hok
  have hlt : a / 512 < s.universes := s.div_lt_universes ha
  obtain ⟨u, hrun, hsent⟩ := hs.sentRun hready (Nat.le_of_lt hlt)
    (fun _ hj => State.chunkDefined_of_below hbelow hj) hok
  have herror : u.chunk s.frameLen.toNat u.index = .error a := by
    rw [hsent.index, State.chunk_congr hsent.keeps.frame, State.chunk_error ha hnone hbelow]
  obtain ⟨n, hn⟩ := Nat.exists_eq_add_of_lt hlt
  calc exec i s = frameSend base s := hi.exec_eq
    _ = sendLoop (s.sample base) (a / 512 + (n + 1)) ((s.setPktCount 0).setLoopIndex (some 0)) := by
      rw [frameSend, frameSendFor_of_ready hready, id, hn, Nat.add_assoc]
    _ = sendLoop (s.sample base) (n + 1) u := hrun.sendLoop_eq (n + 1)
    _ = .fault (.frameFault a u.obs) := sendLoop_fault herror n
    _ = .fault (.frameFault a (s.obs ++ s.frameSends base (a / 512))) := by rw [hsent.obs]

/-- The frame of two universes with its last byte not defined: the first universe is sent, at base 65534, and the
second raises the fault. -/
theorem undefinedByte_in_second_universe (proto : Protocol) :
    ∃ s : State, s = { twoUniverses proto [.ok] with frame := uniformFrame 512 } ∧
      exec (.encodeSend 65534) s = .fault (.frameFault 512 [.transportSend (s.frameDatagram 65534 0)]) := by
  have h := twoUniverses_inv proto [.ok]
  refine ⟨_, rfl, undefinedFrameByteFaults _ _ 65534 512 (.inr rfl)
    ⟨h.params, h.poolA, h.poolE, uniformFrame_wf (by omega), h.pktCount, h.idle, h.unfaulted⟩
    ⟨?nonempty, ?inRange, rfl⟩ ?inFrame ?undefined (fun b hb => uniformFrame_defined (by omega) hb) ?answers⟩
  case nonempty => exact (by decide : (513 : Word).toNat ≠ 0)
  case inRange => exact (by decide : 65534 + chunkCount (513 : Word).toNat - 1 ≤ 65535)
  case inFrame => exact (by decide : 512 < (513 : Word).toNat)
  case undefined =>
    refine Option.eq_none_iff_forall_not_mem.2 fun v hv => ?_
    have hmem : (512, v) ∈ uniformFrame 512 := mem_of_readCell hv
    simp [uniformFrame] at hmem
  case answers =>
    intro k hk
    obtain rfl : k = 0 := by omega
    rfl

end Sys2Proof.Machine

/-! Proofs about the encoding: the decoder against the encoder and the opcode map, what the assembler's lines stand
for, the two headers byte by byte, and the form of every datagram (30_encoding.md). -/

namespace Sys2Proof.Machine

/-! ## Bus words -/

/-- Settles O2: the three fields lie side by side in the word, so each is read back by a division. -/
theorem busWordIsReadWriteBitAddressAndData : Obligations.BusWordIsReadWriteBitAddressAndData := by
  intro rw addr data
  generalize hw : BitVec.ofNat 41 (rw.toNat * 2 ^ 40 + addr.toNat * 2 ^ 32 + data.toNat) = w
  have hrw : rw.toNat < 2 := rw.toNat_lt
  have hword : w.toNat = rw.toNat * 2 ^ 40 + addr.toNat * 2 ^ 32 + data.toNat := by
    rw [← hw, BitVec.toNat_ofNat]
    omega
  have hbit : w.getLsbD 40 = rw := by
    rw [BitVec.getLsbD, Nat.testBit_eq_decide_div_mod_eq, hword]
    cases rw
    · exact decide_eq_false (by simp only [Bool.toNat_false]; omega)
    · exact decide_eq_true (by simp only [Bool.toNat_true]; omega)
  have haddr : w.extractLsb' 32 8 = addr := by
    apply BitVec.eq_of_toNat_eq
    rw [BitVec.extractLsb'_toNat, Nat.shiftRight_eq_div_pow, hword]
    omega
  have hdata : w.extractLsb' 0 32 = data := by
    apply BitVec.eq_of_toNat_eq
    rw [BitVec.extractLsb'_toNat, Nat.shiftRight_eq_div_pow, hword]
    omega
  simp only [decodeBus, hbit, haddr, hdata]

@[simp] theorem decodeBus_regRead_word (addr : BitVec 8) :
    decodeBus (BitVec.ofNat 41 (Instr.regRead addr).word) = .regRead addr := by
  simpa [Instr.word] using busWordIsReadWriteBitAddressAndData false addr 0

@[simp] theorem decodeBus_regWrite_word (addr : BitVec 8) (data : Word) :
    decodeBus (BitVec.ofNat 41 (Instr.regWrite addr data).word) = .regWrite addr data := by
  simpa [Instr.word] using busWordIsReadWriteBitAddressAndData true addr data

/-! ## Command words -/

/-- A word whose low half is 0x0004 decodes to `ENCODE_SEND` of its high half (30_encoding.md R92). -/
theorem decodeCmd_of_low_four {w : Word} (h : w.extractLsb' 0 16 = 0x0004) :
    decodeCmd w = .ok (.encodeSend (w.extractLsb' 16 16).toNat) := by
  have hlow : w.toNat % 2 ^ 16 = 4 := by simpa using congrArg BitVec.toNat h
  have hop : w.extractLsb' 0 8 = 0x04 := by
    apply BitVec.eq_of_toNat_eq
    rw [BitVec.extractLsb'_toNat, Nat.shiftRight_eq_div_pow]
    change _ = 4
    omega
  have hrsv : w.extractLsb' 8 8 = 0 := by
    apply BitVec.eq_of_toNat_eq
    rw [BitVec.extractLsb'_toNat, Nat.shiftRight_eq_div_pow]
    change _ = 0
    omega
  simp [decodeCmd, hop, hrsv]

/-- The word of `ENCODE_SEND base` decodes to that command (30_encoding.md R92, R94). -/
theorem decodeCmd_encodeSend_word {base : Nat} (h : base ≤ 65535) :
    decodeCmd (BitVec.ofNat 32 (Instr.encodeSend base).word) = .ok (.encodeSend base) := by
  generalize hw : BitVec.ofNat 32 (Instr.encodeSend base).word = w
  have hword : w.toNat = base * 2 ^ 16 + 4 := by
    rw [← hw, BitVec.toNat_ofNat, Instr.word]
    omega
  have hlow : w.extractLsb' 0 16 = 0x0004 := by
    apply BitVec.eq_of_toNat_eq
    rw [BitVec.extractLsb'_toNat, Nat.shiftRight_eq_div_pow, hword]
    change _ = 4
    omega
  have hhigh : (w.extractLsb' 16 16).toNat = base := by
    rw [BitVec.extractLsb'_toNat, Nat.shiftRight_eq_div_pow, hword]
    omega
  rw [decodeCmd_of_low_four hlow, hhigh]

/-- A bus word with `rw` clear is a read (30_encoding.md R90). -/
theorem decodeBus_of_read {b : BitVec 41} (h : b.getLsbD 40 = false) :
    decodeBus b = .regRead (b.extractLsb' 32 8) := if_neg (Bool.eq_false_iff.1 h)

/-- A bus word with `rw` set is a write (30_encoding.md R90). -/
theorem decodeBus_of_write {b : BitVec 41} (h : b.getLsbD 40 = true) :
    decodeBus b = .regWrite (b.extractLsb' 32 8) (b.extractLsb' 0 32) := if_pos h

/-- Settles O3: the words of the map decode as it says, and no other word decodes to a command. -/
theorem commandWordsDecodeByTheOpcodeMap : Obligations.CommandWordsDecodeByTheOpcodeMap := by
  refine ⟨fun w i => ⟨decodeCmd_ok, ?onMap⟩, fun b =>
    ⟨fun h => ⟨_, decodeBus_of_read h⟩, fun h => ⟨_, _, decodeBus_of_write h⟩⟩⟩
  case onMap =>
    rintro (⟨rfl, rfl⟩ | ⟨rfl, rfl⟩ | ⟨rfl, rfl⟩ | ⟨hlow, rfl⟩)
    · rfl
    · rfl
    · rfl
    · exact decodeCmd_of_low_four hlow

/-! ## The round trip -/

@[simp] theorem toBytes_length (n w : Nat) : (toBytes n w).length = n := by
  induction n generalizing w with
  | zero => rfl
  | succ n ih => rw [toBytes, List.length_cons, ih]

theorem ofBytes_toBytes (n w : Nat) : ofBytes (toBytes n w) = w % 256 ^ n := by
  induction n generalizing w with
  | zero => exact (Nat.mod_one w).symm
  | succ n ih =>
    rw [toBytes, ofBytes, ih, BitVec.toNat_ofNat, Nat.pow_succ' (n := n)]
    exact Nat.mod_mul.symm

/-- The word of a well-formed instruction fits the bytes it is laid out in. -/
theorem word_lt_of_wellFormed {i : Instr} (h : i.WellFormed) : i.word < 256 ^ i.wordBytes := by
  cases i with
  | openSession => exact Laws.WordFits.openSession h
  | closeSession => exact Laws.WordFits.closeSession h
  | sendFrame => exact Laws.WordFits.sendFrame h
  | encodeSend base => exact Laws.WordFits.encodeSend base h
  | regRead addr => exact Laws.WordFits.regRead addr h
  | regWrite addr data => exact Laws.WordFits.regWrite addr data h

theorem ofBytes_encode {i : Instr} (h : i.WellFormed) : ofBytes (encode i) = i.word := by
  rw [encode, ofBytes_toBytes, Nat.mod_eq_of_lt (word_lt_of_wellFormed h)]

/-- The bytes of a command are read as its 32-bit command word. -/
theorem decode_encode_command {i : Instr} (h : i.WellFormed) (hbytes : i.wordBytes = 4) :
    decode (encode i) = decodeCmd (BitVec.ofNat 32 i.word) := by
  have hlength : (encode i).length = 4 := (toBytes_length ..).trans hbytes
  rw [decode, if_pos hlength, ofBytes_encode h]

/-- The bytes of a bus transaction are read as its 41-bit bus word. -/
theorem decode_encode_transaction {i : Instr} (h : i.WellFormed) (hbytes : i.wordBytes = 6) (hword : i.word < 2 ^ 41) :
    decode (encode i) = .ok (decodeBus (BitVec.ofNat 41 i.word)) := by
  have hlength : (encode i).length = 6 := (toBytes_length ..).trans hbytes
  rw [decode, if_neg (by omega), if_pos hlength, ofBytes_encode h, if_pos hword]

/-- Settles O1: the bytes give the instruction's word back, which decodes to the instruction. -/
theorem decodeOfEncodeIsTheInstruction : Obligations.DecodeOfEncodeIsTheInstruction := by
  intro i h
  cases i with
  | openSession => exact decode_encode_command h rfl
  | closeSession => exact decode_encode_command h rfl
  | sendFrame => exact decode_encode_command h rfl
  | encodeSend base => exact (decode_encode_command h rfl).trans (decodeCmd_encodeSend_word h)
  | regRead addr =>
    have hword : (Instr.regRead addr).word < 2 ^ 41 := by simp only [Instr.word]; omega
    rw [decode_encode_transaction h rfl hword, decodeBus_regRead_word]
  | regWrite addr data =>
    have hword : (Instr.regWrite addr data).word < 2 ^ 41 := by simp only [Instr.word]; omega
    rw [decode_encode_transaction h rfl hword, decodeBus_regWrite_word]

/-- Settles O5: seven words to evaluate. -/
theorem sampleWordsDecode : Obligations.SampleWordsDecode := by
  unfold Obligations.SampleWordsDecode
  decide

/-! ## The assembler -/

theorem asmRead_decodes (r : Register) : decodeBus (asmRead r) = .regRead r.addr := decodeBus_regRead_word r.addr

/-- `WR r, value` is the write of the value to the register (30_encoding.md R141). -/
theorem asmWrite_decodes (r : Register) {value : Nat} (h : value < 2 ^ 32) :
    (asmWrite r value).map decodeBus = some (.regWrite r.addr (BitVec.ofNat 32 value)) := by
  rw [asmWrite, if_pos h, Option.map_some, decodeBus_regWrite_word]

/-- Fields side by side in a number: the lower one fits its bits. -/
theorem shiftLeft_or_eq (a : Nat) {i b : Nat} (h : b < 2 ^ i) : a <<< i ||| b = a * 2 ^ i + b := by
  rw [← Nat.shiftLeft_add_eq_or_of_lt h, Nat.shiftLeft_eq]

/-- A base universe over `OP` is the word of `ENCODE_SEND` (30_encoding.md R142). -/
theorem shiftLeft_or_four (base : Nat) : base <<< 16 ||| 0x04 = (Instr.encodeSend base).word :=
  shiftLeft_or_eq base (by decide)

theorem assemble_encodeSend_decodes {base : Nat} (h : base ≤ 65535) :
    (assemble (.encodeSend base)).map decodeBus =
      some (.regWrite 0x20 (BitVec.ofNat 32 (Instr.encodeSend base).word)) := by
  rw [assemble, if_pos h, shiftLeft_or_four]
  exact asmWrite_decodes .cmd (Laws.WordFits.encodeSend base h)

/-- Settles O6: each mnemonic is the write of its command word to `CMD`. -/
theorem commandMnemonicsAssembleToCmdWrites : Obligations.CommandMnemonicsAssembleToCmdWrites := by
  refine ⟨asmWrite_decodes .cmd (by decide), asmWrite_decodes .cmd (by decide), asmWrite_decodes .cmd (by decide),
    fun base h => ⟨_, assemble_encodeSend_decodes h, ?word, decodeCmd_encodeSend_word h⟩, fun base h => ?refused⟩
  case word => exact Nat.mod_eq_of_lt (Laws.WordFits.encodeSend base h)
  case refused => rw [assemble, if_neg (Nat.not_le.2 h)]

/-- Four bytes, the first at the top, are the number they denote (30_encoding.md R143). -/
theorem packed_bytes_eq {a b c d : Nat} (hb : b ≤ 255) (hc : c ≤ 255) (hd : d ≤ 255) :
    a <<< 24 ||| b <<< 16 ||| c <<< 8 ||| d = a * 2 ^ 24 + b * 2 ^ 16 + c * 2 ^ 8 + d := by
  calc a <<< 24 ||| b <<< 16 ||| c <<< 8 ||| d = ((a <<< 8 ||| b) <<< 8 ||| c) <<< 8 ||| d := by
        simp only [Nat.shiftLeft_or_distrib, ← Nat.shiftLeft_add]
    _ = a * 2 ^ 24 + b * 2 ^ 16 + c * 2 ^ 8 + d := by
      rw [shiftLeft_or_eq a (by omega), shiftLeft_or_eq _ (by omega), shiftLeft_or_eq _ (by omega)]
      omega

theorem assemble_dest_decodes {a b c d : Nat} (ha : a ≤ 255) (hb : b ≤ 255) (hc : c ≤ 255) (hd : d ≤ 255) :
    (assemble (.dest a b c d)).map decodeBus =
      some (.regWrite 0x10 (BitVec.ofNat 32 (a * 2 ^ 24 + b * 2 ^ 16 + c * 2 ^ 8 + d))) := by
  rw [assemble, if_pos ⟨ha, hb, hc, hd⟩, packed_bytes_eq hb hc hd]
  exact asmWrite_decodes .dest (by omega)

theorem assemble_dest_refused {a b c d : Nat} (h : 255 < a ∨ 255 < b ∨ 255 < c ∨ 255 < d) :
    assemble (.dest a b c d) = none := if_neg (by omega)

/-- A start universe in its range is written as it is (30_encoding.md R143). -/
theorem assemble_start_decodes {n : Nat} (h : n ≤ 65535) :
    (assemble (.startArtnet n)).map decodeBus = some (.regWrite 0x08 (BitVec.ofNat 32 n)) ∧
    (assemble (.startE131 n)).map decodeBus = some (.regWrite 0x0C (BitVec.ofNat 32 n)) := by
  rw [assemble, assemble, if_pos h, if_pos h]
  exact ⟨asmWrite_decodes .artnetStart (by omega), asmWrite_decodes .e131Start (by omega)⟩

/-- Settles O7: each line is the write or the read of its row, and a part out of its range is refused. -/
theorem pseudoInstructionsExpand : Obligations.PseudoInstructionsExpand :=
  ⟨asmWrite_decodes .ctrl (by decide), asmWrite_decodes .ctrl (by decide),
    fun _ _ _ _ ha hb hc hd => assemble_dest_decodes ha hb hc hd,
    fun _ _ _ _ h => assemble_dest_refused h,
    fun _ h => asmWrite_decodes .frameLen h,
    fun _ h => assemble_start_decodes h,
    fun _ h => ⟨if_neg (Nat.not_le.2 h), if_neg (Nat.not_le.2 h)⟩,
    congrArg some (asmRead_decodes .status)⟩

/-! ## The headers byte by byte -/

/-- The low byte of a number (00_scope.md R12). -/
theorem byteOf_zero (v : Nat) : byteOf v 0 = BitVec.ofNat 8 (v % 256) :=
  BitVec.eq_of_toNat_eq (Nat.mod_mod v 256).symm

/-- The byte above the low one (00_scope.md R12). -/
theorem byteOf_one (v : Nat) : byteOf v 1 = BitVec.ofNat 8 (v / 256) :=
  congrArg (BitVec.ofNat 8) (Nat.shiftRight_eq_div_pow v 8)

theorem le16_eq (v : Nat) : le16 v = [BitVec.ofNat 8 (v % 256), BitVec.ofNat 8 (v / 256)] := by
  rw [le16, byteOf_zero, byteOf_one]

theorem be16_eq (v : Nat) : be16 v = [BitVec.ofNat 8 (v / 256), BitVec.ofNat 8 (v % 256)] := by
  rw [be16, byteOf_zero, byteOf_one]

/-- Settles O45: the fields are constants but for the universe, whose two bytes come low byte first. -/
theorem artnetHeaderBytes : Obligations.ArtnetHeaderBytes := by
  intro p u _
  have hopcode : le16 0x5000 = [0x00, 0x50] := by decide
  have hversion : be16 14 = [0x00, 0x0E] := by decide
  have hlength : be16 512 = [0x02, 0x00] := by decide
  simp [artnetHeader, artnetId, hopcode, hversion, hlength, le16_eq]

/-- The high byte of the three flags/length fields: the flag nibble over the top of a length from 0x200 to 0x2FF
(30_encoding.md R111). -/
def flagsHigh (p : Params) : Byte := BitVec.ofNat 8 (p.flagNibble.toNat * 16 + 2)

/-- The header, its source name padded to 64 bytes whatever its length (30_encoding.md R110 to R132). -/
theorem e131Header_eq (p : Params) (u : Nat) (s : Byte) :
    e131Header p u s =
      p.rootPrefix.toList ++ [flagsHigh p, 0x6E, 0x00, 0x00, 0x00, 0x04] ++ p.cid.toList ++
        [flagsHigh p, 0x58, 0x00, 0x00, 0x00, 0x02] ++ pad p.sourceName 64 ++
        [0x00, 0x00, 0x00, s, 0x00, BitVec.ofNat 8 (u / 256), BitVec.ofNat 8 (u % 256), flagsHigh p, 0x0B, 0x02, 0xA1,
          0x00, 0x00, 0x00, 0x01, 0x02, 0x01, 0x01] := by
  have hroot : flagsLength p 16 = [flagsHigh p, 0x6E] := flagsLength_eq p (len := 0x26E) (by decide) (by decide)
  have hframing : flagsLength p 38 = [flagsHigh p, 0x58] := flagsLength_eq p (len := 0x258) (by decide) (by decide)
  have hdmp : flagsLength p 115 = [flagsHigh p, 0x0B] := flagsLength_eq p (len := 0x20B) (by decide) (by decide)
  have hrootVector : be32 0x00000004 = [0x00, 0x00, 0x00, 0x04] := by decide
  have hframingVector : be32 0x00000002 = [0x00, 0x00, 0x00, 0x02] := by decide
  have hfirst : be16 0x0000 = [0x00, 0x00] := by decide
  have hincrement : be16 0x0001 = [0x00, 0x01] := by decide
  have hcount : be16 0x0201 = [0x02, 0x01] := by decide
  simp only [e131Header, rootLayer, framingLayer, dmpLayer, hroot, hframing, hdmp, hrootVector, hframingVector, hfirst,
    hincrement, hcount, be16_eq u, List.append_assoc, List.cons_append, List.nil_append]

theorem pad_of_length_le {s : Bytes} {n : Nat} (h : s.length ≤ n) : pad s n = s ++ zeros (n - s.length) := by
  rw [pad, List.take_of_length_le h]

/-- Settles O46: a legal source name is padded and not cut. -/
theorem e131HeaderBytes : Obligations.E131HeaderBytes := by
  intro p u s _ hp
  rw [e131Header_eq, pad_of_length_le hp]
  simp only [flagsHigh, List.append_assoc]

/-! ## Reading the headers back -/

/-- The bytes of a universe, put together again, are the universe. -/
theorem joined_bytes_eq {u : Nat} (h : u ≤ 65535) :
    (BitVec.ofNat 8 (u / 256)).toNat <<< 8 ||| (BitVec.ofNat 8 (u % 256)).toNat = u := by
  rw [shiftLeft_or_eq _ (BitVec.isLt _), BitVec.toNat_ofNat, BitVec.toNat_ofNat]
  omega

/-- A byte past the first part of a datagram is one of the second part. -/
theorem getD_append_past {a : Bytes} {n k : Nat} (b : Bytes) (ha : a.length = n) (hk : n ≤ k) :
    (a ++ b).getD k 0 = b.getD (k - n) 0 := by
  rw [List.getD_append_right _ _ _ _ (ha ▸ hk), ha]

/-- The bytes from an offset past the first part of a datagram on are those of the second part. -/
theorem drop_append_past {a : Bytes} {n k : Nat} (b : Bytes) (ha : a.length = n) (hk : n ≤ k) :
    (a ++ b).drop k = b.drop (k - n) := by
  rw [List.drop_append, List.drop_of_length_le (ha ▸ hk), ha, List.nil_append]

theorem artnetHeader_byteAt_past_name {u : Nat} (p : Params) (rest : Bytes) (hu : u ≤ 65535) {k : Nat}
    (hk : 7 ≤ k) :
    byteAt (artnetHeader p u ++ rest) k =
      byteAt ([0x00, 0x00, 0x50, 0x00, 0x0E, 0x00, 0x00, BitVec.ofNat 8 (u % 256), BitVec.ofNat 8 (u / 256), 0x02,
        0x00] ++ rest) (k - 7) := by
  rw [artnetHeaderBytes p u hu, List.append_assoc, byteAt, byteAt, getD_append_past _ p.artnetName.length_toList hk]

/-- Settles O43: the bytes behind the name are constants, and the universe's low byte and high byte. -/
theorem artnetHeaderReadsBack : Obligations.ArtnetHeaderReadsBack := by
  intro p u rest hu
  have hbyte {k : Nat} := artnetHeader_byteAt_past_name p rest hu (k := k)
  refine ⟨?opcode, ?version, ?universeBytes⟩
  case opcode =>
    rw [artnetOpcode, hbyte (by decide), hbyte (by decide)]
    exact (by decide : 0x00 ||| 0x50 <<< 8 = 0x5000)
  case version =>
    rw [artnetVersion, hbyte (by decide), hbyte (by decide)]
    exact (by decide : 0x00 <<< 8 ||| 0x0E = 14)
  case universeBytes =>
    rw [artnetUniverse, hbyte (by decide), hbyte (by decide), Nat.lor_comm]
    exact joined_bytes_eq hu

theorem e131Header_rootVector (p : Params) (u : Nat) (s : Byte) (rest : Bytes) :
    ((e131Header p u s ++ rest).drop 18).take 4 = [0x00, 0x00, 0x00, 0x04] := by
  simp only [e131Header_eq, List.append_assoc]
  rw [drop_append_past _ p.rootPrefix.length_toList (by decide)]
  rfl

theorem e131Header_framingVector (p : Params) (u : Nat) (s : Byte) (rest : Bytes) :
    ((e131Header p u s ++ rest).drop 40).take 4 = [0x00, 0x00, 0x00, 0x02] := by
  simp only [e131Header_eq, List.append_assoc]
  rw [drop_append_past _ p.rootPrefix.length_toList (by decide), drop_append_past (n := 6) _ rfl (by decide),
    drop_append_past _ p.cid.length_toList (by decide)]
  rfl

theorem e131Header_getD_past_name (p : Params) (u : Nat) (s : Byte) (rest : Bytes) {k : Nat} (hk : 108 ≤ k) :
    (e131Header p u s ++ rest).getD k 0 =
      ([0x00, 0x00, 0x00, s, 0x00, BitVec.ofNat 8 (u / 256), BitVec.ofNat 8 (u % 256), flagsHigh p, 0x0B, 0x02, 0xA1,
          0x00, 0x00, 0x00, 0x01, 0x02, 0x01, 0x01] ++ rest).getD (k - 108) 0 := by
  rw [e131Header_eq, List.append_assoc]
  exact getD_append_past _ (by simp) hk

/-- Settles O44: two vectors stand before the source name; what else is read stands behind it. -/
theorem e131HeaderReadsBack : Obligations.E131HeaderReadsBack := by
  intro p u s rest hu
  have hbyte {k : Nat} := e131Header_getD_past_name p u s rest (k := k)
  refine ⟨?universeBytes, congrArg BitVec.toNat (e131Header_getD p u s rest), e131Header_rootVector p u s rest,
    e131Header_framingVector p u s rest, hbyte (by decide), hbyte (by decide), hbyte (by decide)⟩
  rw [e131Universe, byteAt, byteAt, hbyte (by decide), hbyte (by decide)]
  exact joined_bytes_eq hu

/-! ## The form of every datagram -/

/-- A datagram as R96 says: for `DEST`, with the port and the length of the active protocol's packets. -/
structure HasForm (s : State) (d : Datagram) : Prop where
  dest : d.dest = s.dest
  port : d.port = s.proto.port
  length : d.bytes.length = s.proto.headerLength + 512

/-- `t` has observed what `s` has, and then events of which every datagram satisfies `P`. -/
def SendsOnly (P : Datagram → Prop) (s t : State) : Prop :=
  ∃ new, t.obs = s.obs ++ new ∧ ∀ d, .transportSend d ∈ new → P d

section
variable {P : Datagram → Prop} {s t u : State}

theorem SendsOnly.of_same (h : t.obs = s.obs) : SendsOnly P s t :=
  ⟨[], by rw [h, List.append_nil], fun _ hd => nomatch hd⟩

theorem SendsOnly.of_emitted {e : Event} (h : t.obs = s.obs ++ [e]) (he : ∀ d, e = .transportSend d → P d) :
    SendsOnly P s t :=
  ⟨[e], h, fun d hd => he d (List.mem_singleton.1 hd).symm⟩

theorem SendsOnly.trans (h : SendsOnly P s t) (g : SendsOnly P t u) : SendsOnly P s u := by
  obtain ⟨new, hnew, hP⟩ := h
  obtain ⟨more, hmore, hQ⟩ := g
  exact ⟨new ++ more, by rw [hmore, hnew, List.append_assoc], fun d hd => (List.mem_append.1 hd).elim (hP d) (hQ d)⟩

/-- What a step adds to the observation is determined by its two states. -/
theorem SendsOnly.of_mem_new (h : SendsOnly P s t) {new : List Event} (hnew : t.obs = s.obs ++ new) {d : Datagram}
    (hd : .transportSend d ∈ new) : P d := by
  obtain ⟨added, hadded, hP⟩ := h
  obtain rfl : new = added := List.append_cancel_left (hnew.symm.trans hadded)
  exact hP d hd

theorem afterOpen_sendsOnly (s : State) : SendsOnly P s s.afterOpen := by
  unfold State.afterOpen
  split
  · exact .of_same rfl
  · cases s.answer <;> exact .of_emitted (e := .transportOpen) rfl (fun _ h => nomatch h)

theorem afterClose_sendsOnly (s : State) : SendsOnly P s s.afterClose := by
  unfold State.afterClose
  split
  · exact .of_emitted (e := .transportClose) rfl (fun _ h => nomatch h)
  · exact .of_same rfl

theorem writeEffect_sendsOnly (s : State) (d : Word) (r : Register) : SendsOnly P s (s.writeEffect d r) := by
  cases r <;> exact .of_same rfl

/-- An instruction that issues no send hands over no datagram. -/
theorem SimpleEffect.sendsOnly (h : SimpleEffect s t) : SendsOnly P s t := by
  cases h with
  | opened => exact afterOpen_sendsOnly s
  | closed => exact afterClose_sendsOnly s
  | illegal => exact .of_same rfl
  | read addr r => exact .of_emitted rfl (fun _ h => nomatch h)
  | wrote d r => exact writeEffect_sendsOnly s d r

theorem applyReset_sendsOnly (s : State) : SendsOnly P s s.applyReset := by
  cases hs : s.session with
  | true => exact .of_emitted (e := .transportClose) (by simp [hs]) (fun _ h => nomatch h)
  | false => exact .of_same (by simp [hs])

end

/-- A pass of a send that samples `s` hands over one datagram, of the form `s` gives it. -/
theorem State.LoopInv.handed_sendsOnly {u : State} (hu : u.LoopInv) (s : State) (base : Nat) (chunk : Bytes) :
    SendsOnly (HasForm s) u (u.handed (s.sample base) chunk) := by
  refine .of_emitted (u.handed_obs (s.sample base) chunk) fun d hd => ?_
  cases hd
  refine ⟨rfl, rfl, ?_⟩
  rw [hu.built_packet, List.length_append, header_length, payload_length]
  rfl

/-- A send hands over datagrams of their form only, whether it runs to its end or is cut short. -/
theorem State.Inv.frameSendFor_sendsOnly {rounds : Nat → Nat} {base : Nat} {s t : State} (hs : s.Inv)
    (hrounds : ∀ n, rounds n ≤ n) (h : frameSendFor rounds base s = .next t) : SendsOnly (HasForm s) s t := by
  refine frameSendFor_of_invariant (P := fun u => u.LoopInv ∧ SendsOnly (HasForm s) s u) hrounds
    (fun _ => .of_same rfl) ⟨hs.start, .of_same rfl⟩ ?hok ?hfail (fun _ _ hu _ => hu.2.trans (.of_same rfl)) h
  case hok =>
    rintro u chunk hready ⟨hinv, hsends⟩ hi
    refine ⟨?_, (hsends.trans (hinv.handed_sendsOnly s base chunk)).trans (.of_same (by simp))⟩
    simpa using (hinv.handed (args := s.sample base) chunk (hready.universe_le hi)).afterOk (s.sample base)
  case hfail =>
    rintro u chunk _ ⟨hinv, hsends⟩ _
    exact (hsends.trans (hinv.handed_sendsOnly s base chunk)).trans (.of_same rfl)

theorem State.Inv.exec_sendsOnly {i : Instr} {s t : State} (hs : s.Inv) (h : exec i s = .next t) :
    SendsOnly (HasForm s) s t := by
  rcases exec_next h with ⟨base, _, h⟩ | ⟨_, h⟩
  · exact hs.frameSendFor_sendsOnly (fun _ => Nat.le_refl _) h
  · exact h.sendsOnly

theorem State.Inv.execThenReset_sendsOnly {i : Instr} {n : Nat} {s t : State} (hs : s.Inv)
    (h : execThenReset i n s = .next t) : SendsOnly (HasForm s) s t := by
  rcases execThenReset_next h with ⟨base, u, _, hu, rfl⟩ | ⟨u, _, hu, rfl⟩
  · exact (hs.frameSendFor_sendsOnly (fun m => Nat.min_le_right n m) hu).trans (applyReset_sendsOnly u)
  · exact hu.sendsOnly.trans (applyReset_sendsOnly u)

theorem State.Inv.takeMove_sendsOnly {m : HostMove} {s t : State} (hs : s.Inv) (h : takeMove m s = .next t) :
    SendsOnly (HasForm s) s t := by
  cases m with
  | bus w => exact hs.exec_sendsOnly h
  | place addr value => cases h; exact .of_same rfl
  | reset => cases h; exact applyReset_sendsOnly s
  | busReset w after => exact hs.execThenReset_sendsOnly h

theorem HasForm.of_setPending {s : State} {moves : List HostMove} {d : Datagram} (h : HasForm (s.setPending moves) d) :
    HasForm s d := ⟨h.dest, h.port, h.length⟩

theorem State.Inv.step_sendsOnly {s t : State} (hs : s.Inv) (h : step s = .next t) : SendsOnly (HasForm s) s t := by
  obtain ⟨_, ⟨_, rfl⟩ | ⟨m, rest, _, hm⟩⟩ := step_next h
  · exact .of_same rfl
  · obtain ⟨new, hnew, hform⟩ := (hs.setPending rest).takeMove_sendsOnly hm
    exact ⟨new, hnew, fun d hd => (hform d hd).of_setPending⟩

/-- Settles O41: what a step adds to the observation are datagrams of their form, and other events. -/
theorem everyDatagramHasItsProtocolsForm : Obligations.EveryDatagramHasItsProtocolsForm := by
  intro s t new d hs h hnew hd
  obtain ⟨hdest, hport, hlength⟩ := (hs.step_sendsOnly h).of_mem_new hnew hd
  refine ⟨hdest, ?_⟩
  rw [hport, hlength]
  cases s.proto <;> exact ⟨rfl, rfl⟩

end Sys2Proof.Machine

/-! Proofs about the chunker: how many chunks a frame has, how long each is, and which byte lies in which
(40_chunker.md R150, R151, R153). -/

namespace Sys2Proof.Machine

/-! ## The chunks of a frame -/

theorem chunkStart_eq (i : Nat) : chunkStart i = 512 * i := Nat.mul_comm i 512

/-- A chunk takes 512 bytes where the rest of the frame has them, and the rest of the frame otherwise (R151). -/
theorem chunkLength_eq (len i : Nat) : chunkLength len i = min (len - chunkStart i) 512 := by
  have hnext : (i + 1) * 512 - chunkStart i = 512 := by rw [chunkStart, Nat.succ_mul, Nat.add_sub_cancel_left]
  rw [chunkLength, ← Nat.sub_min_sub_right, hnext]

/-- A frame has the chunks that start inside it (R150). -/
theorem lt_chunkCount_iff {len i : Nat} : i < chunkCount len ↔ chunkStart i < len := by
  rw [chunkCount, chunkStart_eq]
  omega

theorem chunkLength_pos_iff {len i : Nat} : 1 ≤ chunkLength len i ↔ i < chunkCount len := by
  rw [lt_chunkCount_iff, chunkLength_eq]
  omega

theorem chunkLength_le (len i : Nat) : chunkLength len i ≤ 512 := by
  rw [chunkLength_eq]
  exact Nat.min_le_right ..

/-- Byte `a` of a frame lies in the chunk whose index is the quotient of `a` by 512, and in no other (R153). -/
theorem mem_chunk_iff {len a : Nat} (ha : a < len) (i : Nat) :
    chunkStart i ≤ a ∧ a < chunkStart i + chunkLength len i ↔ i = a / 512 := by
  have hend : a < chunkStart i + chunkLength len i ↔ a < 512 * i + 512 := by
    rw [chunkLength_eq, chunkStart_eq]
    omega
  rw [hend, chunkStart_eq]
  omega

/-- A chunk that another one follows is full. -/
theorem chunkLength_of_succ_lt {len i : Nat} (h : i + 1 < chunkCount len) : chunkLength len i = 512 := by
  have hnext : 512 * (i + 1) < len := chunkStart_eq (i + 1) ▸ lt_chunkCount_iff.mp h
  rw [chunkLength_eq, chunkStart_eq]
  omega

/-- The last chunk starts at the multiple of 512 below the last byte. -/
theorem chunkCount_pred {len : Nat} (h : 0 < len) : chunkCount len - 1 = (len - 1) / 512 := by
  unfold chunkCount
  omega

theorem chunkLength_last {len : Nat} (h : 0 < len) :
    chunkLength len (chunkCount len - 1) = (len - 1) % 512 + 1 := by
  rw [chunkCount_pred h, chunkLength_eq, chunkStart_eq]
  omega

/-- Settles O47: the chunks' lengths, and the chunk of each byte, from the closed form of a chunk's length. -/
theorem chunksCoverTheFrameOnce : Obligations.ChunksCoverTheFrameOnce := by
  intro len
  refine ⟨rfl, fun i hi => ⟨chunkStart_eq i, chunkLength_pos_iff.mpr hi, chunkLength_le len i⟩, fun a i ha => ?_,
    fun i => chunkLength_of_succ_lt, chunkLength_last⟩
  rw [← mem_chunk_iff ha i]
  exact and_iff_right_of_imp fun ⟨hstart, _⟩ => lt_chunkCount_iff.mpr (hstart.trans_lt ha)

end Sys2Proof.Machine

/-! Proofs about the Art-Net encoder: what the two protocols share of the block's state (41_artnet_encoder.md R174,
10_state.md R35). -/

namespace Sys2Proof.Machine

/-! ## What a send leaves of the other protocol's state -/

/-- What belongs to the protocol other than `proto` is in `t` as in `s`: `SEQ` and `POOL_E` are E1.31's, `POOL_A` is
Art-Net's. -/
def KeepsOtherProtocol (proto : Protocol) (s t : State) : Prop :=
  (proto = .artnet → t.seq = s.seq ∧ t.poolE = s.poolE) ∧ (proto = .e131 → t.poolA = s.poolA)

theorem KeepsOtherProtocol.refl (proto : Protocol) (s : State) : KeepsOtherProtocol proto s s :=
  ⟨fun _ => ⟨rfl, rfl⟩, fun _ => rfl⟩

theorem KeepsOtherProtocol.trans {proto : Protocol} {s t u : State} (h : KeepsOtherProtocol proto s t)
    (g : KeepsOtherProtocol proto t u) : KeepsOtherProtocol proto s u := by
  obtain ⟨hartnet, he131⟩ := h
  obtain ⟨gartnet, ge131⟩ := g
  refine ⟨fun hp => ?_, fun hp => (ge131 hp).trans (he131 hp)⟩
  exact ⟨(gartnet hp).left.trans (hartnet hp).left, (gartnet hp).right.trans (hartnet hp).right⟩

/-- Building a packet and handing it over writes the active protocol's pool, and `SEQ` under E1.31 only. -/
theorem handed_keepsOtherProtocol (args : SendArgs) (chunk : Bytes) (s : State) :
    KeepsOtherProtocol args.proto s (s.handed args chunk) := by
  refine ⟨fun hp => ⟨?seq, ?poolE⟩, fun hp => ?poolA⟩
  case seq => simp [State.handed_seq, hp]
  case poolE => simp [State.handed_poolE, hp]
  case poolA => simp [State.handed_poolA, hp]

/-- The advance of `SEQ` that waits for the answer is E1.31's too (42_e131_encoder.md R197). -/
theorem afterOk_keepsOtherProtocol (args : SendArgs) (s : State) (i : Nat) :
    KeepsOtherProtocol args.proto s (s.afterOk args i) :=
  ⟨fun hp => ⟨by simp [hp], State.afterOk_poolE ..⟩, fun _ => State.afterOk_poolA ..⟩

/-- What a pass leaves of the other protocol's state, the whole send leaves. -/
theorem frameSend_keepsOtherProtocol {base : Nat} {s t : State} (h : frameSend base s = .next t) :
    KeepsOtherProtocol s.proto s t :=
  frameSendFor_of_invariant (P := KeepsOtherProtocol s.proto s)
    (hrounds := Nat.le_refl)
    (hcheck := fun _ => .refl s.proto s)
    (hstart := .refl s.proto s)
    (hok := fun u chunk _ hu _ => (hu.trans (handed_keepsOtherProtocol (s.sample base) chunk u)).trans
      (afterOk_keepsOtherProtocol (s.sample base) _ u.index))
    (hfail := fun u chunk _ hu _ => hu.trans (handed_keepsOtherProtocol (s.sample base) chunk u))
    (hdone := fun _ _ hu _ => hu) h

/-- Settles O31: a send command runs FRAME_SEND, none of whose passes touches the other protocol's state. -/
theorem protocolsShareNoState : Obligations.ProtocolsShareNoState := by
  intro s t i base hi h
  exact frameSend_keepsOtherProtocol (hi.exec_eq ▸ h)

end Sys2Proof.Machine

/-! Proofs about the E1.31 encoder: the sequence law over any run without a reset (42_e131_encoder.md R192 to R194). -/

namespace Sys2Proof.Machine

/-! ## The E1.31 packets of an observation -/

/-- `n` sequence values from `q` on, modulo 256 (42_e131_encoder.md R192). -/
def sequenceFrom (q : Byte) (n : Nat) : Bytes := (List.range n).map fun j => q + BitVec.ofNat 8 j

theorem sequenceFrom_add (q : Byte) (m n : Nat) :
    sequenceFrom q (m + n) = sequenceFrom q m ++ sequenceFrom (q + BitVec.ofNat 8 m) n := by
  simp [sequenceFrom, List.range_add, BitVec.ofNat_add, BitVec.add_assoc]

theorem e131Sends_append (es fs : List Event) : e131Sends (es ++ fs) = e131Sends es + e131Sends fs := by
  induction es with
  | nil => exact (Nat.zero_add _).symm
  | cons e es ih => cases e <;> simp [e131Sends, ih, Nat.add_assoc]

theorem e131SequencesOf_append (es fs : List Event) :
    e131SequencesOf (es ++ fs) = e131SequencesOf es ++ e131SequencesOf fs := by
  induction es with
  | nil => rfl
  | cons e es ih => cases e <;> simp [e131SequencesOf, ih]

/-- Where no datagram is handed over, no E1.31 packet is. -/
theorem e131_none_of_no_datagram {es : List Event} (h : ∀ d, .transportSend d ∉ es) :
    e131Sends es = 0 ∧ e131SequencesOf es = [] := by
  induction es with
  | nil => exact ⟨rfl, rfl⟩
  | cons e es ih =>
    have hrest := ih fun d hd => h d (List.mem_cons_of_mem e hd)
    cases e with
    | transportSend d => exact absurd List.mem_cons_self (h d)
    | transportOpen => exact hrest
    | transportClose => exact hrest
    | busRead addr value => exact hrest

/-! ## The sequence law between two states -/

/-- From `s` to `t`, `SEQ` advances by one for every E1.31 packet handed over, and these packets carry the values of
`SEQ` in turn (42_e131_encoder.md R192, R194). -/
def SequenceAdvances (s t : State) : Prop :=
  ∃ new, t.obs = s.obs ++ new ∧ t.seq = s.seq + BitVec.ofNat 8 (e131Sends new) ∧
    e131SequencesOf new = sequenceFrom s.seq (e131Sends new)

theorem SequenceAdvances.trans {s t u : State} (h : SequenceAdvances s t) (g : SequenceAdvances t u) :
    SequenceAdvances s u := by
  obtain ⟨new, hobs, hseq, hvalues⟩ := h
  obtain ⟨more, gobs, gseq, gvalues⟩ := g
  refine ⟨new ++ more, by rw [gobs, hobs, List.append_assoc], ?_, ?_⟩
  · rw [gseq, hseq, e131Sends_append, BitVec.ofNat_add, BitVec.add_assoc]
  · rw [e131SequencesOf_append, e131Sends_append, hvalues, gvalues, hseq, sequenceFrom_add]

/-- What hands over no datagram and leaves `SEQ` meets the law. -/
theorem SequenceAdvances.of_no_datagram {s t : State} (hsends : SendsOnly (fun _ => False) s t) (hseq : t.seq = s.seq) :
    SequenceAdvances s t := by
  obtain ⟨new, hobs, hnone⟩ := hsends
  obtain ⟨hcount, hvalues⟩ := e131_none_of_no_datagram hnone
  exact ⟨new, hobs, by simp [hcount, hseq], by rw [hvalues, hcount]; rfl⟩

theorem SequenceAdvances.of_same {s t : State} (hobs : t.obs = s.obs) (hseq : t.seq = s.seq) : SequenceAdvances s t :=
  .of_no_datagram (.of_same hobs) hseq

/-! ## The instructions -/

/-- `OPEN`, `CLOSE`, an illegal command and the register accesses leave `SEQ` (42_e131_encoder.md R193). -/
theorem SimpleEffect.seq {s t : State} (h : SimpleEffect s t) : t.seq = s.seq := by
  cases h with
  | opened =>
    unfold State.afterOpen
    split
    · rfl
    · cases s.answer <;> rfl
  | closed => unfold State.afterClose; split <;> rfl
  | illegal => rfl
  | read addr r => rfl
  | wrote d r => cases r <;> rfl

theorem SimpleEffect.sequenceAdvances {s t : State} (h : SimpleEffect s t) : SequenceAdvances s t :=
  .of_no_datagram h.sendsOnly h.seq

/-- A packet that is built and handed over uses one value of `SEQ` if it is an E1.31 packet, and none if it is an
Art-Net packet; the transport's answer plays no part. -/
theorem State.LoopInv.handed_sequenceAdvances {args : SendArgs} {s : State} (h : s.LoopInv)
    (hadv : s.params.seqAdvanceOnFail = true) (chunk : Bytes) : SequenceAdvances s (s.handed args chunk) := by
  have hobs := s.handed_obs args chunk
  have hseq := s.handed_seq args chunk
  rw [h.built_packet] at hobs
  refine ⟨_, hobs, ?_⟩
  rw [hseq]
  cases args.proto with
  | artnet => simp [Protocol.port, e131Sends, e131SequencesOf, sequenceFrom]
  | e131 =>
    have hbyte := e131Header_getD s.params (args.base + s.index) s.seq (payload chunk)
    simpa [Protocol.port, e131Sends, e131SequencesOf, sequenceFrom, hadv] using hbyte

/-- With `SEQ_ADVANCE_ON_FAIL`, nothing is left to advance after an `ok` (42_e131_encoder.md R197). -/
theorem afterOk_sequenceAdvances {s : State} (hadv : s.params.seqAdvanceOnFail = true) (args : SendArgs) (i : Nat) :
    SequenceAdvances s (s.afterOk args i) :=
  .of_same (by simp) (by simp [hadv])

/-- A send meets the law, whether its packets are answered `ok` or `fail`. -/
theorem State.Inv.frameSend_sequenceAdvances {base : Nat} {s t : State} (hs : s.Inv)
    (hadv : s.params.seqAdvanceOnFail = true) (h : frameSend base s = .next t) : SequenceAdvances s t := by
  refine frameSendFor_of_invariant
    (P := fun u => u.LoopInv ∧ u.params.seqAdvanceOnFail = true ∧ SequenceAdvances s u) (fun _ => Nat.le_refl _)
    (fun _ => .of_same rfl rfl) ⟨hs.start, hadv, .of_same rfl rfl⟩ ?hok ?hfail
    (fun _ _ ⟨_, _, hu⟩ _ => hu.trans (.of_same rfl rfl)) h
  case hok =>
    rintro u chunk hready ⟨hinv, hu, hseq⟩ hi
    have hhanded := hinv.handed (args := s.sample base) chunk (hready.universe_le hi)
    refine ⟨by simpa using hhanded.afterOk (s.sample base), by simpa using hu, ?_⟩
    exact (hseq.trans (hinv.handed_sequenceAdvances hu chunk)).trans (afterOk_sequenceAdvances (by simpa using hu) _ _)
  case hfail =>
    rintro u chunk _ ⟨hinv, hu, hseq⟩ _
    exact (hseq.trans (hinv.handed_sequenceAdvances hu chunk)).trans (.of_same rfl rfl)

theorem State.Inv.exec_sequenceAdvances {i : Instr} {s t : State} (hs : s.Inv)
    (hadv : s.params.seqAdvanceOnFail = true) (h : exec i s = .next t) : SequenceAdvances s t := by
  rcases exec_next h with ⟨base, _, h⟩ | ⟨_, h⟩
  · exact hs.frameSend_sequenceAdvances hadv h
  · exact h.sequenceAdvances

/-! ## The run -/

/-- A move of the host without a reset: a transaction, or a frame byte placed. -/
def HostMove.NoReset (m : HostMove) : Prop := (∃ w, m = .bus w) ∨ ∃ a v, m = .place a v

/-- A move without a reset leaves the moves that follow it. -/
theorem takeMove_pending {m : HostMove} {s t : State} (hm : m.NoReset) (h : takeMove m s = .next t) :
    t.pending = s.pending := by
  obtain ⟨w, rfl⟩ | ⟨a, v, rfl⟩ := hm
  · exact (blockNeverWritesTheFrame s t _ h).right
  · cases h; rfl

theorem State.Inv.takeMove_sequenceAdvances {m : HostMove} {s t : State} (hs : s.Inv)
    (hadv : s.params.seqAdvanceOnFail = true) (hm : m.NoReset) (h : takeMove m s = .next t) :
    SequenceAdvances s t := by
  obtain ⟨w, rfl⟩ | ⟨a, v, rfl⟩ := hm
  · exact hs.exec_sequenceAdvances hadv h
  · cases h; exact .of_same rfl rfl

/-- What the sequence law asks of a state, and every step keeps: the invariant, `SEQ_ADVANCE_ON_FAIL`, and no reset to
come. -/
structure State.Sequenced (s : State) : Prop where
  inv : s.Inv
  advanceOnFail : s.params.seqAdvanceOnFail = true
  noReset : ∀ m ∈ s.pending, m.NoReset

theorem State.Sequenced.step_keeps {s t : State} (hs : s.Sequenced) (h : step s = .next t) :
    t.Sequenced ∧ SequenceAdvances s t := by
  have hinv : t.Inv := everyStepKeepsTheInvariant s t hs.inv h
  have hadv : t.params.seqAdvanceOnFail = true := (parametersNeverChange s t h).symm ▸ hs.advanceOnFail
  obtain ⟨_, ⟨_, rfl⟩ | ⟨m, rest, hpending, hm⟩⟩ := step_next h
  · exact ⟨hs, .of_same rfl rfl⟩
  · have hmoves := hs.noReset
    rw [hpending, List.forall_mem_cons] at hmoves
    obtain ⟨hfirst, hrest⟩ := hmoves
    refine ⟨⟨hinv, hadv, ?_⟩, (hs.inv.setPending rest).takeMove_sequenceAdvances hs.advanceOnFail hfirst hm⟩
    rw [takeMove_pending hfirst hm]
    exact hrest

/-- A run of `k + 1` steps is one step and then a run of `k`. -/
theorem stepMany_succ_next {k : Nat} {s t : State} (h : stepMany (k + 1) s = .next t) :
    ∃ u, step s = .next u ∧ stepMany k u = .next t := by
  rw [stepMany] at h
  cases hu : step s with
  | next u => rw [hu] at h; exact ⟨u, rfl, h⟩
  | fault f => rw [hu] at h; cases h
  | refused r => rw [hu] at h; cases h

theorem State.Sequenced.stepMany_sequenceAdvances {k : Nat} {s t : State} (hs : s.Sequenced)
    (h : stepMany k s = .next t) : SequenceAdvances s t := by
  induction k generalizing s with
  | zero => cases h; exact .of_same rfl rfl
  | succ k ih =>
    obtain ⟨u, hu, hrun⟩ := stepMany_succ_next h
    obtain ⟨hsequenced, hfirst⟩ := hs.step_keeps hu
    exact hfirst.trans (ih hsequenced hrun)

/-- Settles O42, by induction on the number of steps: each of them advances `SEQ` as the law says, and leaves a state
from which the next one does. -/
theorem sequenceLaw : Obligations.SequenceLaw := fun _ _ _ hs hadv hmoves h =>
  State.Sequenced.stepMany_sequenceAdvances ⟨hs, hadv, hmoves⟩ h

end Sys2Proof.Machine

/-! Proofs about the send commands: how a send ends before its first packet, and which packets, buffers and counts it
leaves when it ends after one (43_frame_send.md). -/

namespace Sys2Proof.Machine

/-! ## A send that a check refuses -/

theorem State.frameLen_toNat_eq_zero {s : State} : s.frameLen.toNat = 0 ↔ s.frameLen = 0 := by
  rw [← BitVec.toNat_inj]
  rfl

/-- An empty frame is the first ground of refusal, and the only one for `VALIDATION` (43_frame_send.md R223). -/
theorem State.sendCheck_validation {s : State} {base : Nat} :
    s.sendCheck base = some .validation ↔ s.frameLen = 0 := by
  rw [← State.frameLen_toNat_eq_zero]
  unfold State.sendCheck
  by_cases hlen : s.frameLen.toNat = 0
  · simp [hlen]
  · rw [if_neg hlen]
    refine iff_of_false ?_ hlen
    split
    · simp
    · split <;> simp

theorem State.sendCheck_range {s : State} {base : Nat} (hlen : s.frameLen ≠ 0)
    (hrange : 65535 < base + s.universes - 1) : s.sendCheck base = some .range := by
  rw [State.sendCheck, if_neg (mt State.frameLen_toNat_eq_zero.1 hlen), if_pos hrange]

theorem State.sendCheck_usage {s : State} {base : Nat} (hlen : s.frameLen ≠ 0)
    (hrange : base + s.universes - 1 ≤ 65535) (hsession : s.session = false) : s.sendCheck base = some .usage := by
  rw [State.sendCheck, if_neg (mt State.frameLen_toNat_eq_zero.1 hlen), if_neg (Nat.not_lt.2 hrange),
    if_pos hsession]

/-- A refused send clears `PKT_COUNT` and sets the result (43_frame_send.md R230). -/
theorem SendsFrom.exec_refused {i : Instr} {s : State} {base : Nat} {code : ResultCode} (hi : SendsFrom i s base)
    (h : s.sendCheck base = some code) :
    exec i s = .next { s with result := code, pktCount := 0, loopIndex := none } := by
  rw [hi.exec_eq, frameSend, frameSendFor, h]
  rfl

/-- A send that the checks let through ends with `OK` or `TRANSPORT` (43_frame_send.md R228, R229). -/
theorem sendLoop_result {args : SendArgs} {n : Nat} {s t : State} (h : sendLoop args n s = .next t) :
    t.result = .ok ∨ t.result = .transport := by
  rcases sendLoop_next h with ⟨u, _, rfl⟩ | ⟨k, u, v, _, _, _, rfl⟩
  · exact .inl rfl
  · exact .inr rfl

/-- Settles O23: the first check asks for the length, and no other check and no pass gives `VALIDATION`. -/
theorem emptyFrameIsRefusedByValidation : Obligations.EmptyFrameIsRefusedByValidation := by
  intro s i base hi
  refine ⟨fun hlen => hi.exec_refused (State.sendCheck_validation.2 hlen), fun t h hresult => ?_⟩
  rw [hi.exec_eq] at h
  rcases frameSendFor_next h with ⟨code, hcheck, rfl⟩ | ⟨_, hloop⟩
  · obtain rfl : code = .validation := hresult
    exact State.sendCheck_validation.1 hcheck
  · rcases sendLoop_result hloop with hr | hr <;> simp [hr] at hresult

/-- Settles O24: the second check refuses the frame. -/
theorem universeOverflowIsRefusedByRange : Obligations.UniverseOverflowIsRefusedByRange :=
  fun _ _ _ hi hlen hrange => hi.exec_refused (State.sendCheck_range hlen hrange)

/-- Settles O25: the third check refuses the frame. -/
theorem sendWithoutSessionIsRefusedByUsage : Obligations.SendWithoutSessionIsRefusedByUsage :=
  fun _ _ _ hi hlen hrange hsession => hi.exec_refused (State.sendCheck_usage hlen hrange hsession)

/-! ## The pools and `PKT_COUNT` of a send under way -/

/-- The pools of `u` where a send that began in `s` has built the packets of its first `k` universes: these packets in
the active protocol's pool, and every other entry as it was (41_artnet_encoder.md R170; 42_e131_encoder.md R190). -/
structure State.Buffered (s : State) (base k : Nat) (u : State) : Prop where
  built : ∀ j, j < k → (u.poolOf s.proto).get (base + j) = some (s.frameDatagram base j).bytes
  others : PoolsAgreeOutside base (base + k) s u

/-- Handing over the next datagram puts its packet into the pool, over none of the earlier ones. -/
theorem State.Buffered.handed {s u : State} {base k : Nat} {chunk : Bytes} (h : s.Buffered base k u)
    (hsent : s.SentUpTo base k u) (hpay : payload chunk = s.framePayload k) :
    s.Buffered base (k + 1) (u.handed (s.sample base) chunk) where
  built j hj := by
    have hput : (u.handed (s.sample base) chunk).poolOf s.proto =
        (u.poolOf s.proto).put (base + k) (s.frameDatagram base k).bytes := by
      rw [← hsent.built_packet hpay, ← hsent.index]
      exact State.handed_poolOf (s.sample base) chunk u
    rw [hput]
    rcases Nat.lt_succ_iff_lt_or_eq.1 hj with hlt | rfl
    · rw [Pool.get_put_other _ _ (by omega), h.built j hlt]
    · exact Pool.get_put_same ..
  others :=
    PoolsAgreeOutside.handed (args := s.sample base) chunk
      (fun v hv => h.others v (hv.imp_right (Nat.le_of_succ_le ·))) (hsent.index ▸ Nat.lt_succ_self k)

theorem State.Buffered.afterOk {s u : State} {base k : Nat} (h : s.Buffered base k u) (args : SendArgs) (i : Nat) :
    s.Buffered base k (u.afterOk args i) where
  built j hj := by rw [State.afterOk_poolOf]; exact h.built j hj
  others v hv := by rw [State.afterOk_poolA, State.afterOk_poolE]; exact h.others v hv

/-- Each pass that got an `ok` counts one packet (43_frame_send.md R230). -/
theorem SentRun.pktCount {args : SendArgs} {k : Nat} {s u : State} (h : SentRun args k s u) :
    u.pktCount = s.pktCount + BitVec.ofNat 32 k := by
  induction h with
  | zero s => simp
  | @succ n s t u first _ ih =>
    obtain ⟨chunk, _, _, rfl⟩ := sendUniverse_sent first
    rw [ih, State.afterOk_pktCount, State.handed_pktCount, Nat.add_comm n 1, BitVec.ofNat_add, BitVec.add_assoc]
    rfl

/-- `PKT_COUNT` is the number of passes: at most 65536 are made, so it never wraps (10_state.md R31). -/
theorem SentRun.pktCount_toNat {args : SendArgs} {k : Nat} {s u : State}
    (h : SentRun args k ((s.setPktCount 0).setLoopIndex (some 0)) u) (hk : k ≤ 65536) : u.pktCount.toNat = k := by
  have hcount : u.pktCount = 0#32 + BitVec.ofNat 32 k := h.pktCount
  rw [hcount, BitVec.zero_add, BitVec.toNat_ofNat, Nat.mod_eq_of_lt (by omega)]

/-! ## A send of a defined frame -/

theorem State.FrameDefined.chunkDefined {s : State} (h : s.FrameDefined) (i : Nat) : s.ChunkDefined i :=
  fun j hj => h _ (by unfold chunkLength at hj; omega)

/-- With its frame defined, the send's next pass reads the chunk of the next universe. -/
theorem State.SentUpTo.chunk_eq {s u : State} {base k : Nat} (h : s.SentUpTo base k u) (hdef : s.FrameDefined) :
    ∃ chunk, u.chunk s.frameLen.toNat u.index = .ok chunk ∧ payload chunk = s.framePayload k := by
  obtain ⟨chunk, hchunk, hpay⟩ := (hdef.chunkDefined k).chunk_eq
  exact ⟨chunk, by rw [h.index, State.chunk_congr h.keeps.frame, hchunk], hpay⟩

/-- A send of a defined frame, after the `ok` answers of its first `k` universes. -/
theorem State.Inv.bufferedRun {s : State} {base : Nat} (hs : s.Inv) (hready : s.SendReady base)
    (hdef : s.FrameDefined) {k : Nat} (hk : k ≤ s.universes) (hok : ∀ j, j < k → s.answerAt j = .ok) :
    ∃ u, SentRun (s.sample base) k ((s.setPktCount 0).setLoopIndex (some 0)) u ∧ s.SentUpTo base k u ∧
      s.Buffered base k u := by
  induction k with
  | zero =>
    exact ⟨_, .zero _, hs.sentUpTo_zero base, fun j hj => absurd hj (Nat.not_lt_zero j), fun _ _ => ⟨rfl, rfl⟩⟩
  | succ k ih =>
    obtain ⟨u, hrun, hsent, hbuf⟩ := ih (Nat.le_of_succ_le hk) (fun j hj => hok j (Nat.lt_succ_of_lt hj))
    have hanswer : u.answer = .ok := (hrun.answers.2 0).trans (hok k (Nat.lt_succ_self k))
    obtain ⟨v, hpass, hv⟩ := hsent.pass hready hk (hdef.chunkDefined k) hanswer
    refine ⟨v, hrun.snoc hpass, hv, ?_⟩
    obtain ⟨chunk, hchunk, hpay⟩ := hsent.chunk_eq hdef
    rw [sendUniverse_eq hchunk, hanswer, MicroStep.sent.injEq] at hpass
    exact hpass ▸ (hbuf.handed hsent hpay).afterOk _ _

/-- A send that is ready goes on from where its passes that got an `ok` have led. -/
theorem SendsFrom.exec_eq_of_sentRun {i : Instr} {s u : State} {base k n : Nat} (hi : SendsFrom i s base)
    (hready : s.SendReady base) (hrun : SentRun (s.sample base) k ((s.setPktCount 0).setLoopIndex (some 0)) u)
    (hn : s.universes = k + n) : exec i s = sendLoop (s.sample base) n u := by
  rw [hi.exec_eq, frameSend, frameSendFor_of_ready hready, id, hn, hrun.sendLoop_eq]

/-- Settles O26: every universe is sent, and the loop then ends with `OK`. -/
theorem successfulSendHandsOverTheWholeFrame : Obligations.SuccessfulSendHandsOverTheWholeFrame := by
  intro s i base hi hs hready hdef hok
  obtain ⟨u, hrun, hsent, hbuf⟩ := hs.bufferedRun hready hdef (Nat.le_refl s.universes) hok
  refine ⟨u.finish .ok, hi.exec_eq_of_sentRun (n := 0) hready hrun rfl, rfl, hrun.pktCount_toNat hready.universes_le,
    hsent.obs, hsent.seq, fun j hj => ?_⟩
  rw [State.finish_poolOf]
  exact hbuf.built j hj

/-- The loop stops at a pass whose packet the transport answers with `fail` (43_frame_send.md R228). -/
theorem sendLoop_failed {args : SendArgs} {s : State} {chunk : Bytes} (h : s.chunk args.len s.index = .ok chunk)
    (hfail : s.answer = .fail) (n : Nat) :
    sendLoop args (n + 1) s = .next ((s.handed args chunk).finish .transport) := by
  simp only [sendLoop, sendUniverse_eq h, hfail]

/-- After the datagram of universe `k` has been handed over, before its answer: `SEQ` has advanced for it if it
advances on `fail` too (42_e131_encoder.md R192, R197). -/
theorem State.SentUpTo.handed_seq {s u : State} {base k : Nat} (h : s.SentUpTo base k u) (chunk : Bytes) :
    (u.handed (s.sample base) chunk).seq =
      if s.proto = .e131 then s.seq + BitVec.ofNat 8 (if s.params.seqAdvanceOnFail then k + 1 else k) else s.seq := by
  have hproto : (s.sample base).proto = s.proto := rfl
  rw [State.handed_seq, h.seq, h.keeps.params, hproto]
  cases s.proto
  · rfl
  · cases s.params.seqAdvanceOnFail <;> simp [BitVec.ofNat_add, BitVec.add_assoc]

theorem State.SentUpTo.handed_obs {s u : State} {base k : Nat} {chunk : Bytes} (h : s.SentUpTo base k u)
    (hpay : payload chunk = s.framePayload k) :
    (u.handed (s.sample base) chunk).obs = s.obs ++ s.frameSends base (k + 1) := by
  rw [State.handed_obs, h.built_packet hpay, h.obs, State.frameSends_succ, List.append_assoc]
  rfl

/-- Settles O27: the universes below `base + k` are sent one by one, and the next one's packet is the last. -/
theorem failedSendAbandonsTheFrame : Obligations.FailedSendAbandonsTheFrame := by
  intro s i base k hi hs hready hdef hk hok hfail
  obtain ⟨u, hrun, hsent, hbuf⟩ := hs.bufferedRun hready hdef (Nat.le_of_lt hk) hok
  obtain ⟨chunk, hchunk, hpay⟩ := hsent.chunk_eq hdef
  obtain ⟨n, hn⟩ := Nat.exists_eq_add_of_lt hk
  have hanswer : u.answer = .fail := (hrun.answers.2 0).trans hfail
  have hlast : s.Buffered base (k + 1) (u.handed (s.sample base) chunk) := hbuf.handed hsent hpay
  have hseq := hsent.handed_seq chunk
  refine ⟨(u.handed (s.sample base) chunk).finish .transport, ?exec, rfl, ?pktCount, hsent.handed_obs hpay, ?session,
    fun hp => ?artnet, fun hp => ?e131, fun j hj => ?buffers, fun v hv => ?later⟩
  case exec => exact (hi.exec_eq_of_sentRun (n := n + 1) hready hrun hn).trans (sendLoop_failed hchunk hanswer n)
  case pktCount =>
    rw [State.finish_pktCount, State.handed_pktCount, hrun.pktCount_toNat (hk.le.trans hready.universes_le)]
  case session => exact ((handed_keeps _ chunk u).session.trans hsent.keeps.session).trans hready.session
  case artnet => simpa [hp] using hseq
  case e131 => simpa [hp] using hseq
  case buffers =>
    rw [State.finish_poolOf]
    exact hlast.built j (Nat.lt_succ_of_le hj)
  case later => exact hlast.others v (.inr hv)

end Sys2Proof.Machine

/-! Proofs about the transport session: how `OPEN` and `CLOSE` end, and what ends an open session (44_session.md). -/

namespace Sys2Proof.Machine

/-! ## `OPEN` and `CLOSE` case by case -/

theorem State.setSession_eq_self {s : State} {v : Bool} (h : s.session = v) : s.setSession v = s := by
  subst h
  rfl

/-- With a session open, `OPEN` ends with `USAGE` (44_session.md R250). -/
theorem State.afterOpen_of_session {s : State} (h : s.session = true) : s.afterOpen = s.finish .usage := if_pos h

theorem State.afterOpen_of_ok {s : State} (h : s.session = false) (ha : s.answerAt 0 = .ok) :
    s.afterOpen = ((s.callTransport .transportOpen).setSession true).finish .ok := by
  simp [State.afterOpen, State.answer, h, ha]

theorem State.afterOpen_of_fail {s : State} (h : s.session = false) (ha : s.answerAt 0 = .fail) :
    s.afterOpen = ((s.callTransport .transportOpen).setSession false).finish .transport := by
  have hkeep : (s.callTransport .transportOpen).setSession false = s.callTransport .transportOpen :=
    State.setSession_eq_self h
  simp [State.afterOpen, State.answer, h, ha, hkeep]

theorem State.afterClose_of_session {s : State} (h : s.session = true) :
    s.afterClose = ((s.emit .transportClose).setSession false).finish .ok := if_pos h

/-- Without a session, `CLOSE` only ends with `OK` (44_session.md R251). -/
theorem State.afterClose_of_noSession {s : State} (h : s.session = false) :
    s.afterClose = (s.setSession false).finish .ok := by
  rw [State.setSession_eq_self h]
  exact if_neg (Bool.eq_false_iff.1 h)

/-- Settles O20: the branches of `OPEN`, by the session and the transport's answer. -/
theorem openResult : Obligations.OpenResult := by
  refine ⟨rfl, fun s => ?_⟩
  split
  next h => exact congrArg Host.Outcome.next (State.afterOpen_of_session h)
  next h =>
    have hnone : s.session = false := Bool.eq_false_iff.2 h
    refine ⟨s.afterOpen, rfl, ?_⟩
    cases ha : s.answerAt 0 with
    | ok => rw [State.afterOpen_of_ok hnone ha]; rfl
    | fail => rw [State.afterOpen_of_fail hnone ha]; rfl

/-- Settles O21: with a session and without, `CLOSE` ends alike but for the call of the transport. -/
theorem closeResult : Obligations.CloseResult := by
  refine ⟨rfl, fun s => congrArg Host.Outcome.next ?_⟩
  cases h : s.session with
  | true => exact State.afterClose_of_session h
  | false =>
    rw [State.afterClose_of_noSession h, if_neg (by decide), List.append_nil]
    rfl

/-! ## What leaves a session open -/

theorem writeEffect_session (s : State) (d : Word) (r : Register) : (s.writeEffect d r).session = s.session := by
  cases r <;> rfl

theorem execRegRead_session {addr : BitVec 8} {s t : State} (h : execRegRead addr s = .next t) :
    t.session = s.session := by
  unfold execRegRead at h
  split at h <;> cases h
  rfl

/-- `CMD` is at 0x20 only (10_state.md R23). -/
theorem Register.addr_of_ofAddr_cmd : ∀ {addr : BitVec 8}, Register.ofAddr addr = some .cmd → addr = 0x20 := by
  decide

/-- A write to a register other than `CMD` leaves the session (45_register_access.md R268). -/
theorem execRegWrite_session {addr : BitVec 8} {d : Word} {s t : State} (haddr : addr ≠ 0x20)
    (h : execRegWrite addr d s = .next t) : t.session = s.session := by
  unfold execRegWrite at h
  split at h
  next => cases h
  next hcmd => exact absurd (Register.addr_of_ofAddr_cmd hcmd) haddr
  next r _ _ => cases h; exact writeEffect_session s d r

theorem afterOpen_staysOpen {s : State} (hopen : s.session = true) : s.afterOpen.session = true := by
  rw [State.afterOpen_of_session hopen]
  exact hopen

theorem frameSend_staysOpen {base : Nat} {s t : State} (hopen : s.session = true) (h : frameSend base s = .next t) :
    t.session = true := (frameSendFor_passKeeps h).session.trans hopen

/-- A command word other than that of `CLOSE` leaves an open session open (44_session.md R252). -/
theorem dispatch_staysOpen {w : Word} {s t : State} (hw : w ≠ 0x00000002) (hopen : s.session = true)
    (h : dispatch w s = .next t) : t.session = true := by
  simp only [dispatch, if_neg hw] at h
  split_ifs at h
  · cases h; exact afterOpen_staysOpen hopen
  · exact frameSend_staysOpen hopen h
  · exact frameSend_staysOpen hopen h
  · cases h; exact hopen

/-- `CLOSE`, or the write of its word to `CMD`, is the only instruction that ends a session (44_session.md R252). -/
theorem exec_staysOpen {i : Instr} {s t : State} (hi : i ≠ .closeSession) (hw : i ≠ .regWrite 0x20 0x00000002)
    (hopen : s.session = true) (h : exec i s = .next t) : t.session = true := by
  cases i with
  | openSession => cases h; exact afterOpen_staysOpen hopen
  | closeSession => exact absurd rfl hi
  | sendFrame => exact frameSend_staysOpen hopen h
  | encodeSend base => exact frameSend_staysOpen hopen h
  | regRead addr => exact (execRegRead_session h).trans hopen
  | regWrite addr d =>
    by_cases haddr : addr = 0x20
    · subst haddr
      exact dispatch_staysOpen (fun hd => hw (hd ▸ rfl)) hopen h
    · exact (execRegWrite_session haddr h).trans hopen

/-- A bus word is a read or a write, never a command itself (30_encoding.md R90). -/
theorem decodeBus_ne_closeSession (w : BitVec 41) : decodeBus w ≠ .closeSession := by
  cases h : w.getLsbD 40 with
  | false => rw [decodeBus_of_read h]; nofun
  | true => rw [decodeBus_of_write h]; nofun

/-- Settles O22: of the host's moves, an idle step and a placed byte leave the session, and a transaction leaves it
open unless it is the write of `CLOSE`. -/
theorem sessionStaysOpenUntilCloseOrReset : Obligations.SessionStaysOpenUntilCloseOrReset := by
  intro s t hopen h hclosed
  have hended : t.session ≠ true := Bool.eq_false_iff.1 hclosed
  obtain ⟨_, ⟨_, rfl⟩ | ⟨m, rest, hpending, hm⟩⟩ := step_next h
  · exact absurd hopen hended
  refine ⟨rest, ?_⟩
  cases m with
  | reset => exact .inl hpending
  | busReset w after => exact .inr (.inl ⟨w, after, hpending⟩)
  | bus w =>
    refine .inr (.inr ⟨w, hpending, ?_⟩)
    by_contra hw
    exact hended (exec_staysOpen (s := s.setPending rest) (decodeBus_ne_closeSession w) hw hopen hm)
  | place addr value => cases hm; exact absurd hopen hended

end Sys2Proof.Machine

/-! Proofs about register access: which addresses hold a register, what a read shows and a write does, and how a write
to `CMD` is dispatched (45_register_access.md). -/

namespace Sys2Proof.Machine

/-! ## The register map -/

@[simp] theorem Register.ofAddr_addr (r : Register) : Register.ofAddr r.addr = some r := by
  cases r <;> rfl

/-- The map holds the multiples of 4 up to 0x20, and no other address (20_memory.md R66, R69). -/
theorem Register.ofAddr_eq_none_iff : ∀ {addr : BitVec 8},
    Register.ofAddr addr = none ↔ addr.toNat % 4 ≠ 0 ∨ 0x20 < addr.toNat := by
  decide

/-! ## Reading -/

theorem exec_regRead_addr (r : Register) (s : State) :
    exec (.regRead r.addr) s = .next (s.emit (.busRead r.addr (s.readValue r))) := by
  change execRegRead r.addr s = _
  rw [execRegRead, Register.ofAddr_addr]

theorem ctrlWord_toNat (s : State) : s.ctrlWord.toNat = if s.proto = .e131 then 1 else 0 := by
  rw [State.ctrlWord]
  cases s.proto <;> rfl

theorem statusWord_toNat (s : State) :
    s.statusWord.toNat = s.result.code.toNat * 16 + if s.session then 1 else 0 := by
  have hbit : ((BitVec.ofBool s.session).setWidth 32).toNat = if s.session then 1 else 0 := by
    cases s.session <;> rfl
  have hlow : (if s.session then 1 else 0) < 2 ^ 4 := by split <;> decide
  have hcode : (s.result.code.setWidth 32 <<< 4).toNat = s.result.code.toNat <<< 4 := by
    rw [BitVec.toNat_shiftLeft, BitVec.toNat_setWidth, Nat.shiftLeft_eq, Nat.shiftLeft_eq]
    omega
  rw [State.statusWord, BitVec.toNat_or, hbit, hcode]
  exact shiftLeft_or_eq _ hlow

theorem ResultCode.code_le (c : ResultCode) : c.code.toNat ≤ 5 := by
  cases c <;> decide

/-- Settles O16: the read records the register's word; `STATUS` holds its two fields side by side. -/
theorem registerReadReturnsItsWord : Obligations.RegisterReadReturnsItsWord := by
  intro s r
  have hstart (b : BitVec 16) : (b.setWidth 32).toNat = b.toNat := BitVec.toNat_setWidth_of_le (by decide)
  have hseq : (s.seq.setWidth 32).toNat = s.seq.toNat := BitVec.toNat_setWidth_of_le (by decide)
  exact ⟨exec_regRead_addr r s, ctrlWord_toNat s, statusWord_toNat s, hstart _, hstart _, rfl, rfl, hseq, rfl, rfl,
    rfl, rfl, rfl, rfl, rfl, rfl, rfl, ResultCode.code_le⟩

/-! ## Writing -/

theorem extractLow_eq_ofNat (d : Word) : d.extractLsb' 0 16 = BitVec.ofNat 16 (d.toNat % 65536) := by
  apply BitVec.eq_of_toNat_eq
  rw [BitVec.extractLsb'_toNat, BitVec.toNat_ofNat, Nat.shiftRight_zero, Nat.mod_mod]

/-- Settles O17: each write has the effect of its register, of which a start universe takes the low half. -/
theorem registerWriteHasItsEffect : Obligations.RegisterWriteHasItsEffect := by
  intro s d
  have hwrite (r : Register) (h : r ≠ .cmd) := exec_regWrite_addr h d s
  refine ⟨hwrite .ctrl nofun, hwrite .status nofun, ?artnetStart, ?e131Start, hwrite .dest nofun,
    hwrite .frameLen nofun, hwrite .seq nofun, hwrite .pktCount nofun⟩
  case artnetStart => rw [← extractLow_eq_ofNat]; exact hwrite .artnetStart nofun
  case e131Start => rw [← extractLow_eq_ofNat]; exact hwrite .e131Start nofun

/-! ## Writing a command word -/

/-- Settles O9: the write dispatches its data, and the dispatch runs the command the data decodes to. -/
theorem cmdWriteExecutesTheCommand : Obligations.CmdWriteExecutesTheCommand := fun _ _ s h =>
  dispatch_of_decodeCmd h s

/-- The three grounds on which a word is no command (30_encoding.md R93). -/
theorem decodeCmd_error_iff {w : Word} :
    (∃ e, decodeCmd w = .error e) ↔
      ((w.extractLsb' 0 8).toNat = 0x00 ∨ 0x05 ≤ (w.extractLsb' 0 8).toNat) ∨ w.extractLsb' 8 8 ≠ 0 ∨
        (w.extractLsb' 16 16 ≠ 0 ∧ (w.extractLsb' 0 8).toNat ≠ 0x04) := by
  have hzero : w.extractLsb' 0 8 = 0x00 ↔ (w.extractLsb' 0 8).toNat = 0x00 := BitVec.toNat_inj.symm
  have hfour : w.extractLsb' 0 8 ≠ 0x04 ↔ (w.extractLsb' 0 8).toNat ≠ 0x04 := BitVec.toNat_inj.symm.not
  unfold decodeCmd
  extract_lets op rsv arg
  rw [← hzero, ← hfour]
  split_ifs with hop hrsv h4 harg h1 h2
  · exact iff_of_true ⟨_, rfl⟩ (.inl hop)
  · exact iff_of_true ⟨_, rfl⟩ (.inr (.inl hrsv))
  · exact iff_of_false nofun (by tauto)
  · exact iff_of_true ⟨_, rfl⟩ (.inr (.inr ⟨harg, h4⟩))
  all_goals exact iff_of_false nofun (by tauto)

/-- A word that decodes to no command is dispatched to `ILLEGAL` (45_register_access.md R270). -/
theorem dispatch_of_decodeCmd_error {w : Word} {e : DecodeError} (h : decodeCmd w = .error e) (s : State) :
    dispatch w s = illegalCommand s := by
  have hdecodes : ∀ i, decodeCmd w ≠ .ok i := fun i hi => nomatch h.symm.trans hi
  have h1 : w ≠ 0x00000001 := by rintro rfl; exact hdecodes .openSession rfl
  have h2 : w ≠ 0x00000002 := by rintro rfl; exact hdecodes .closeSession rfl
  have h3 : w ≠ 0x00000003 := by rintro rfl; exact hdecodes .sendFrame rfl
  have h4 : w.extractLsb' 0 16 ≠ 0x0004 := fun hlow => hdecodes _ (decodeCmd_of_low_four hlow)
  rw [dispatch, if_neg h1, if_neg h2, if_neg h3, if_neg h4]

/-- Settles O4: the decoder's grounds are those of the spec, and the dispatch then ends with `ILLEGAL`. -/
theorem illegalWordsOnlySetTheResult : Obligations.IllegalWordsOnlySetTheResult := fun _ s =>
  ⟨decodeCmd_error_iff, fun ⟨_, h⟩ => dispatch_of_decodeCmd_error h s⟩

/-! ## Faults -/

/-- The only fault of a pass is that of an undefined frame byte (20_memory.md R61). -/
theorem sendUniverse_fault {args : SendArgs} {s : State} {f : Fault} (h : sendUniverse args s = .fault f) :
    ∃ a, f = .frameFault a s.obs := by
  cases hc : s.chunk args.len s.index with
  | error a =>
    simp only [sendUniverse, hc] at h
    cases h
    exact ⟨a, rfl⟩
  | ok chunk =>
    rw [sendUniverse_eq hc] at h
    split at h <;> cases h

theorem sendLoop_only_frameFault {args : SendArgs} {n : Nat} {s : State} {f : Fault}
    (h : sendLoop args n s = .fault f) : ∃ a obs, f = .frameFault a obs := by
  induction n generalizing s with
  | zero => cases h
  | succ n ih =>
    rw [sendLoop] at h
    split at h
    next hf => cases h; exact ⟨_, _, (sendUniverse_fault hf).choose_spec⟩
    next => cases h
    next => exact ih h

theorem frameSend_fault {base : Nat} {s : State} {f : Fault} (h : frameSend base s = .fault f) :
    ∃ a obs, f = .frameFault a obs := by
  rw [frameSend, frameSendFor] at h
  split at h
  · cases h
  · exact sendLoop_only_frameFault h

/-- A command word can fault only by a send that reads an undefined frame byte (60_exceptions.md R302). -/
theorem dispatch_fault {w : Word} {s : State} {f : Fault} (h : dispatch w s = .fault f) :
    ∃ a obs, f = .frameFault a obs := by
  unfold dispatch at h
  split_ifs at h
  · cases h
  · cases h
  · exact frameSend_fault h
  · exact frameSend_fault h
  · cases h

theorem execRegRead_busFault_iff {addr : BitVec 8} {s : State} :
    execRegRead addr s = .fault (.busFault addr) ↔ Register.ofAddr addr = none := by
  unfold execRegRead
  split
  next hnone => exact iff_of_true rfl hnone
  next hsome => exact iff_of_false nofun (by simp [hsome])

theorem execRegWrite_busFault_iff {addr : BitVec 8} {d : Word} {s : State} :
    execRegWrite addr d s = .fault (.busFault addr) ↔ Register.ofAddr addr = none := by
  unfold execRegWrite
  split
  next hnone => exact iff_of_true rfl hnone
  next hcmd =>
    refine iff_of_false (fun hfault => ?_) (by simp [hcmd])
    obtain ⟨_, _, hframe⟩ := dispatch_fault hfault
    cases hframe
  next hsome => exact iff_of_false nofun (by simp [hsome])

/-- Settles O18: an access raises `BusFault` exactly where no register is mapped; a command's own fault is another. -/
theorem busFaultExactlyOffTheMap : Obligations.BusFaultExactlyOffTheMap := fun _ _ _ =>
  ⟨execRegRead_busFault_iff.trans Register.ofAddr_eq_none_iff,
    execRegWrite_busFault_iff.trans Register.ofAddr_eq_none_iff⟩

end Sys2Proof.Machine

/-! Proofs about the exceptions: the idle block, what each result code is caused by, and what an error changes
(60_exceptions.md). -/

namespace Sys2Proof.Machine

/-! ## The idle block -/

/-- Settles O10: without a move of the host the step answers its own state. -/
theorem idleBlockKeepsItsState : Obligations.IdleBlockKeepsItsState := by
  intro s hclear hidle
  rw [step, stepOf, hclear, hidle]
  rfl

/-! ## The commands -/

/-- A command opens a session, closes it, or sends the frame. -/
theorem IsCommand.cases {i : Instr} (hi : IsCommand i) (s : State) :
    i = .openSession ∨ i = .closeSession ∨ ∃ base, SendsFrom i s base := by
  cases i with
  | openSession => exact .inl rfl
  | closeSession => exact .inr (.inl rfl)
  | sendFrame => exact .inr (.inr ⟨_, .inl ⟨rfl, rfl⟩⟩)
  | encodeSend base => exact .inr (.inr ⟨base, .inr rfl⟩)
  | regRead addr => exact hi.elim
  | regWrite addr d => exact hi.elim

theorem not_sendsFrom_openSession {s : State} {base : Nat} : ¬ SendsFrom .openSession s base := by
  simp [SendsFrom]

theorem not_sendsFrom_closeSession {s : State} {base : Nat} : ¬ SendsFrom .closeSession s base := by
  simp [SendsFrom]

theorem SendsFrom.ne_openSession {i : Instr} {s : State} {base : Nat} (h : SendsFrom i s base) : i ≠ .openSession :=
  fun hi => not_sendsFrom_openSession (hi ▸ h)

theorem SendsFrom.ne_closeSession {i : Instr} {s : State} {base : Nat} (h : SendsFrom i s base) : i ≠ .closeSession :=
  fun hi => not_sendsFrom_closeSession (hi ▸ h)

theorem afterClose_result (s : State) : s.afterClose.result = .ok := by
  unfold State.afterClose
  split <;> rfl

/-! ## The causes of the result codes -/

/-- What it takes for `OPEN` to end with a result code (44_session.md R250; 60_exceptions.md R301). -/
def OpenCause (s : State) : ResultCode → Prop
  | .ok => s.session = false ∧ s.answerAt 0 = .ok
  | .usage => s.session = true
  | .transport => s.session = false ∧ s.answerAt 0 = .fail
  | .validation => False
  | .range => False
  | .illegal => False

theorem afterOpen_cause {s : State} {code : ResultCode} (h : s.afterOpen.result = code) : OpenCause s code := by
  subst h
  cases hs : s.session with
  | true => rw [State.afterOpen_of_session hs]; exact hs
  | false =>
    cases ha : s.answerAt 0 with
    | ok => rw [State.afterOpen_of_ok hs ha]; exact ⟨hs, ha⟩
    | fail => rw [State.afterOpen_of_fail hs ha]; exact ⟨hs, ha⟩

theorem OpenCause.code_eq {s : State} {code : ResultCode} (h : OpenCause s code) :
    code = .ok ∨ code = .usage ∨ code = .transport := by
  cases code with
  | ok => exact .inl rfl
  | usage => exact .inr (.inl rfl)
  | transport => exact .inr (.inr rfl)
  | validation => exact h.elim
  | range => exact h.elim
  | illegal => exact h.elim

/-- What it takes for a send of base universe `base` that ends in `t` to end with a result code (43_frame_send.md R223
to R229; 60_exceptions.md R301). -/
def SendCause (s : State) (base : Nat) (t : State) : ResultCode → Prop
  | .ok => s.SendReady base ∧ (∀ k, k < s.universes → s.answerAt k = .ok) ∧ t.pktCount.toNat = s.universes
  | .usage => s.session = false
  | .validation => s.frameLen = 0
  | .transport => s.SendReady base ∧
      ∃ k, k < s.universes ∧ (∀ j, j < k → s.answerAt j = .ok) ∧ s.answerAt k = .fail ∧ t.pktCount.toNat = k
  | .range => 65535 < base + s.universes - 1
  | .illegal => False

theorem sendCheck_cause {s : State} {base : Nat} {code : ResultCode} (h : s.sendCheck base = some code) (t : State) :
    SendCause s base t code := by
  unfold State.sendCheck at h
  split_ifs at h with hlen hrange hsession <;> cases h
  · exact State.frameLen_toNat_eq_zero.1 hlen
  · exact hrange
  · exact hsession

/-- The loop of a send that is ready ends by its answers alone: all of them `ok`, or one of them the first `fail`. -/
theorem sendLoop_cause {s t : State} {base : Nat} (hready : s.SendReady base)
    (h : sendLoop (s.sample base) s.universes ((s.setPktCount 0).setLoopIndex (some 0)) = .next t) :
    SendCause s base t t.result := by
  rcases sendLoop_next h with ⟨u, hrun, rfl⟩ | ⟨k, u, v, hk, hrun, hfailed, rfl⟩
  · exact ⟨hready, hrun.answers.1, hrun.pktCount_toNat hready.universes_le⟩
  · obtain ⟨chunk, _, hanswer, rfl⟩ := sendUniverse_failed hfailed
    refine ⟨hready, k, hk, hrun.answers.1, (hrun.answers.2 0).symm.trans hanswer, ?_⟩
    rw [State.finish_pktCount, State.handed_pktCount, hrun.pktCount_toNat (hk.le.trans hready.universes_le)]

theorem SendsFrom.cause {i : Instr} {s t : State} {base : Nat} {code : ResultCode} (hi : SendsFrom i s base)
    (h : exec i s = .next t) (hresult : t.result = code) : SendCause s base t code := by
  subst hresult
  rw [hi.exec_eq] at h
  rcases frameSendFor_next h with ⟨code, hcheck, rfl⟩ | ⟨hnone, hloop⟩
  · exact sendCheck_cause hcheck _
  · exact sendLoop_cause (sendCheck_none.1 hnone) hloop

/-- Settles O33: each clause is read off the causes of `OPEN` or of a send; `CLOSE` only ends with `OK`. -/
theorem resultCodesHaveTheirCauses : Obligations.ResultCodesHaveTheirCauses := by
  intro s t i hi h
  rcases hi.cases s with rfl | rfl | ⟨base, hsend⟩
  case inl =>
    cases h
    exact ⟨afterOpen_cause, nofun, fun _ => (afterOpen_cause rfl).code_eq, fun hr => .inl ⟨rfl, afterOpen_cause hr⟩,
      fun hr => (afterOpen_cause hr).elim, fun _ hsend => absurd hsend not_sendsFrom_openSession,
      fun hr => .inl ⟨(afterOpen_cause hr).1, rfl⟩, fun _ => ⟨afterOpen_cause, fun hr => (afterOpen_cause hr).2⟩,
      fun _ hsend => absurd hsend not_sendsFrom_openSession⟩
  case inr.inl =>
    cases h
    simp [afterClose_result, not_sendsFrom_closeSession]
  case inr.inr =>
    have hopen : i ≠ .openSession := hsend.ne_openSession
    exact ⟨hsend.cause h, fun hc => absurd hc hsend.ne_closeSession, fun ho => absurd ho hopen,
      fun hr => .inr ⟨hopen, hsend.cause h hr⟩, hsend.cause h, fun _ hbase hr => hbase.cause h hr,
      fun hr => .inr ⟨(hsend.cause h hr).1.session, hopen⟩, fun ho => absurd ho hopen,
      fun _ hbase => ⟨hbase.cause h, fun hr => (hbase.cause h hr).2⟩⟩

/-! ## Precise errors -/

/-- A send that goes on ends as a check refused it, or with `OK` or `TRANSPORT`. -/
theorem SendsFrom.refused_or_ended {i : Instr} {s t : State} {base : Nat} (hi : SendsFrom i s base)
    (h : exec i s = .next t) :
    t = { s with result := t.result, pktCount := 0, loopIndex := none } ∨ t.result = .ok ∨ t.result = .transport := by
  rw [hi.exec_eq] at h
  rcases frameSendFor_next h with ⟨code, _, rfl⟩ | ⟨_, hloop⟩
  · exact .inl rfl
  · exact .inr (sendLoop_result hloop)

theorem afterOpen_of_usage {s : State} (h : s.afterOpen.result = .usage) : s.afterOpen = s.finish .usage :=
  State.afterOpen_of_session (afterOpen_cause h)

/-- An `OPEN` that fails leaves the session closed, as it was (44_session.md R250). -/
theorem afterOpen_of_transport {s : State} (h : s.afterOpen.result = .transport) :
    s.afterOpen = (s.callTransport .transportOpen).finish .transport := by
  obtain ⟨hclosed, hfail⟩ := afterOpen_cause h
  rw [State.afterOpen_of_fail hclosed hfail,
    State.setSession_eq_self (s := s.callTransport .transportOpen) hclosed]

/-- Settles O32: only `OPEN` and the checks of a send end with these codes, and they change no more than it says. -/
theorem errorsArePrecise : Obligations.ErrorsArePrecise := by
  intro s t i hi h
  rcases hi.cases s with rfl | rfl | ⟨base, hsend⟩
  case inl =>
    cases h
    refine ⟨?_, fun _ => afterOpen_of_transport⟩
    rintro (hr | hr | hr)
    · rw [hr]
      exact afterOpen_of_usage hr
    · exact (afterOpen_cause hr).elim
    · exact (afterOpen_cause hr).elim
  case inr.inl =>
    cases h
    simp [afterClose_result]
  case inr.inr =>
    refine ⟨fun hr => ?_, fun ho => absurd ho hsend.ne_openSession⟩
    rw [if_neg (not_or.2 ⟨hsend.ne_openSession, hsend.ne_closeSession⟩)]
    rcases hsend.refused_or_ended h with ht | hok | htransport
    · exact ht
    · simp [hok] at hr
    · simp [htransport] at hr

/-! ## A send of a defined frame ends -/

/-- No pass faults where the frame is defined, so the loop ends whatever the transport answers. -/
theorem State.FrameDefined.sendLoop_completes {s : State} (hdef : s.FrameDefined) (base n : Nat) {u : State}
    (hu : PassKeeps s u) : ∃ t, sendLoop (s.sample base) n u = .next t := by
  induction n generalizing u with
  | zero => exact ⟨_, rfl⟩
  | succ n ih =>
    obtain ⟨chunk, hchunk, _⟩ := (hdef.chunkDefined u.index).chunk_eq
    have hread : u.chunk (s.sample base).len u.index = .ok chunk := (State.chunk_congr hu.frame ..).trans hchunk
    cases ha : u.answer with
    | fail => exact ⟨_, sendLoop_failed hread ha n⟩
    | ok =>
      simp only [sendLoop, sendUniverse_eq hread, ha]
      exact ih ((hu.trans (handed_keeps ..)).trans (afterOk_keeps ..))

theorem State.FrameDefined.frameSend_completes {s : State} (hdef : s.FrameDefined) (base : Nat) :
    ∃ t, frameSend base s = .next t := by
  rw [frameSend, frameSendFor]
  split
  · exact ⟨_, rfl⟩
  · exact hdef.sendLoop_completes base _ ⟨rfl, rfl, rfl, rfl, rfl, rfl, rfl, rfl, rfl, rfl⟩

/-- Settles O29: the send ends in a next state, whose result has its cause. -/
theorem sendOfADefinedFrameCompletes : Obligations.SendOfADefinedFrameCompletes := by
  intro s i base hi hdef
  obtain ⟨t, ht⟩ := hdef.frameSend_completes base
  have hexec : exec i s = .next t := hi.exec_eq.trans ht
  refine ⟨t, hexec, fun hillegal => hi.cause hexec hillegal, fun hok => ?_⟩
  obtain ⟨_, _, hcount⟩ := hi.cause hexec hok
  exact hcount

end Sys2Proof.Machine

/-! Proofs about reset: the values it gives the block, and what it leaves of a send it cuts short
(70_reset_and_hazards.md R330 to R333). -/

namespace Sys2Proof.Machine

/-! ## The state after reset -/

/-- Settles O13: the values are those of `State.reset`, and an empty frame memory holds no byte. -/
theorem stateAfterReset : Obligations.StateAfterReset :=
  ⟨rfl, rfl, rfl, rfl, rfl, rfl, rfl, rfl, rfl, rfl, rfl, rfl, rfl, rfl, rfl, rfl, rfl, rfl, fun _ => rfl⟩

/-- Settles O34: `SOURCE_NAME` is cut to 64 bytes (00_scope.md R6), and the pools and the frame memory are empty. -/
theorem invariantHoldsAtReset : Obligations.InvariantHoldsAtReset where
  params := List.length_take_le 64 Config.sourceNameDraw
  poolA := ⟨.nil, fun _ h => nomatch h⟩
  poolE := ⟨.nil, fun _ h => nomatch h⟩
  frame := ⟨.nil, fun _ h => nomatch h⟩
  pktCount := Nat.zero_le _
  idle := rfl
  unfaulted := rfl

/-! ## RESET between transactions -/

/-- What reset appends to the observation (70_reset_and_hazards.md R332). -/
theorem State.applyReset_obs_append (s : State) :
    s.applyReset.obs = s.obs ++ if s.session then [.transportClose] else [] := by
  rw [State.applyReset_obs]
  split
  · rfl
  · exact (List.append_nil _).symm

/-- Settles O14: the step takes the move; but for the observation, the state it leads to is written out in
`State.applyReset`. -/
theorem resetMoveAppliesTheResetValues : Obligations.ResetMoveAppliesTheResetValues := by
  intro s rest hf hp
  rw [step_move hf hp]
  have hobs := (s.setPending rest).applyReset_obs_append
  exact congrArg (fun obs => Host.Outcome.next { (s.setPending rest).applyReset with obs := obs }) hobs

/-! ## RESET during a send -/

/-- The base universe of a send does not depend on the host's moves to come. -/
theorem sendBase_setPending (i : Instr) (s : State) (moves : List HostMove) :
    sendBase i (s.setPending moves) = sendBase i s := by
  cases i <;> rfl

theorem execThenReset_of_sendBase {i : Instr} {s : State} {base : Nat} (h : sendBase i s = some base) (after : Nat) :
    execThenReset i after s = thenReset (frameSendFor (fun n => min after n) base s) := by
  simp only [execThenReset, h]

/-- While the answers are `ok`, a send whose loop is run for some of its universes hands over their datagrams. -/
theorem State.Inv.frameSendFor_sentUpTo {s : State} {base : Nat} (hs : s.Inv) (hready : s.SendReady base)
    (hdef : s.FrameDefined) {rounds : Nat → Nat} (hrounds : rounds s.universes ≤ s.universes)
    (hok : ∀ k, k < rounds s.universes → s.answerAt k = .ok) :
    ∃ u, frameSendFor rounds base s = .next (u.finish .ok) ∧ s.SentUpTo base (rounds s.universes) u := by
  obtain ⟨u, hrun, hsent⟩ := hs.sentRun hready hrounds (fun j _ => hdef.chunkDefined j) hok
  refine ⟨u, ?_, hsent⟩
  rw [frameSendFor_of_ready hready]
  exact hrun.sendLoop_eq 0

/-- The observation when a send is abandoned: what it has handed over, and the closing of its session
(70_reset_and_hazards.md R332, R333). -/
theorem State.SentUpTo.finish_applyReset_obs {s u : State} {base k : Nat} (h : s.SentUpTo base k u)
    (hready : s.SendReady base) (code : ResultCode) :
    (u.finish code).applyReset.obs = s.obs ++ s.frameSends base k ++ [.transportClose] := by
  have hopen : (u.finish code).session = true := h.keeps.session.trans hready.session
  rw [State.applyReset_obs, if_pos hopen, State.finish_obs, h.obs]

/-- Settles O15: the loop of the abandoned send is that of a send of its first universes, and the reset that follows
closes the session, which is still open. -/
theorem resetDuringSendAbandonsIt : Obligations.ResetDuringSendAbandonsIt := by
  intro s rest w after base hs hp hbase hready hdef hok
  have hready' : (s.setPending rest).SendReady base := ⟨hready.nonempty, hready.inRange, hready.session⟩
  obtain ⟨u, hsend, hsent⟩ := (hs.setPending rest).frameSendFor_sentUpTo (rounds := fun n => min after n) hready' hdef
    (Nat.min_le_right after s.universes) hok
  have hstep : step s = .next (u.finish .ok).applyReset := calc
    step s = execThenReset (decodeBus w) after (s.setPending rest) := step_move hs.unfaulted hp
    _ = thenReset (frameSendFor (fun n => min after n) base (s.setPending rest)) :=
      execThenReset_of_sendBase ((sendBase_setPending _ s rest).trans hbase) after
    _ = .next (u.finish .ok).applyReset := by rw [hsend]; rfl
  exact ⟨_, hstep, hsent.finish_applyReset_obs hready' .ok, rfl, rfl, rfl, rfl, rfl, rfl, rfl, rfl, rfl, rfl, rfl, rfl,
    hsent.keeps.params, hsent.keeps.frame, hsent.keeps.pending⟩

end Sys2Proof.Machine
